-- ==== Sys2Proof/Word.lean ====
section
/-!
DEFINITION. The plain word types: a byte, a 56-bit token id, a flash page as its bytes.
-/
namespace Sys2Proof

/-- One byte of a frame, a record or a flash page. -/
abbrev Byte := BitVec 8

/-- A token id: 56 bits, cut and folded as bits by the bucket index (R146). -/
abbrev TokenId := BitVec 56

/-- The bytes of one flash page, in order (R222); 256 of them when the flash sent a whole page. -/
abbrev Page := List Byte

end Sys2Proof
end

