-- ==== Sys2Proof/Syntax.lean ====
section
/-!
DEFINITION. The commands of the LB-6: one constructor of `Instr` per row of spec/opcode_table.json, with the
operands that the row's rule gives it (the table itself gives none; log 17).
-/
namespace Sys2Proof

/-- The eight lanes. -/
inductive LaneId where
  | l0 | l1 | l2 | l3 | l4 | l5 | l6 | l7
deriving DecidableEq, Repr

/-- One value per lane: what the spec replicates per lane. -/
structure PerLane (α : Type) where
  l0 : α
  l1 : α
  l2 : α
  l3 : α
  l4 : α
  l5 : α
  l6 : α
  l7 : α
deriving DecidableEq, Repr

/-- The two berths. -/
inductive BerthId where
  | berthA | berthB
deriving DecidableEq, Repr

/-- One value per berth. -/
structure PerBerth (α : Type) where
  a : α
  b : α
deriving DecidableEq, Repr

/-- The six lane roles (R39). -/
inductive Role where
  | off | entry | boardA | boardB | alightA | alightB
deriving DecidableEq, Repr

/-- A level of a passage line, raw or debounced (R70). -/
inductive Level where
  | clear | occupied
deriving DecidableEq, Repr

/-- The fail policy of the landing (R117). -/
inductive FailPolicy where
  | opened | closed
deriving DecidableEq, Repr

/-- The action of a deny list entry (R147). -/
inductive Action where
  | refuse | admitFlag
deriving DecidableEq, Repr

/-- A good frame's fields: they fill the message's fields exactly, or they do not (R4, R203 step 4). -/
inductive Fields (α : Type) where
  | fit (args : α)
  | misfit
deriving DecidableEq, Repr

/-- The fields of ARRIVE (R5). On-board fills two bytes (0 to 65,535 all allowed); the others are judged by R9. -/
structure ArriveArgs where
  vesselId : Nat
  line : Nat
  capacity : Nat
  onBoard : BitVec 16
deriving DecidableEq, Repr

/-- The arguments of SET_CLOCK (R86). -/
structure ClockArgs where
  day : Nat
  second : Nat
deriving DecidableEq, Repr

/-- The five lane settings besides the role (R40). Times in milliseconds, the passage timeout in seconds. -/
structure LaneSettings where
  verdictDeadline : Nat
  writeTimeout : Nat
  passageTimeout : Nat
  debounce : Nat
  homeLine : Nat
deriving DecidableEq, Repr

/-- The arguments of SET_LANE (R41): the lane by its code; `role` is `none` for a code that is none of the six. -/
structure LaneArgs where
  lane : Nat
  role : Option Role
  settings : LaneSettings
deriving DecidableEq, Repr

/-- The six landing settings as a command or an image carries them (R207); `none` marks a code that is neither
of the two the setting allows. -/
structure LandingArgs where
  landingId : Nat
  passback : Nat
  failPolicy : Option FailPolicy
  logRefusals : Option Bool
  watermark : Nat
  closingGrace : Nat
deriving DecidableEq, Repr

/-- The arguments of WRITE_FARE (R104): the entry as its bytes (R226). -/
structure WriteFareArgs where
  page : Nat
  index : Nat
  entry : List Byte
deriving DecidableEq, Repr

/-- The arguments of READ_FARE (R106). -/
structure ReadFareArgs where
  page : Nat
  index : Nat
deriving DecidableEq, Repr

/-- A staged plan: four optional fields (R1, R32). -/
structure Plan where
  vesselId : Option Nat
  cap : Option Nat
  line : Option Nat
  grace : Option Nat
deriving DecidableEq, Repr

/-- The arguments of STAGE_PLAN (R32): the berth by its code. -/
structure PlanArgs where
  berth : Nat
  plan : Plan
deriving DecidableEq, Repr

/-- The arguments of SET_CAP (R33). -/
structure CapArgs where
  berth : Nat
  cap : Nat
deriving DecidableEq, Repr

/-- One entry of LIST_ADD (R160); `action` is `none` for a code that is neither action. -/
structure AddEntry where
  tokenId : TokenId
  action : Option Action
  reason : Nat
deriving DecidableEq, Repr

/-- The arguments of LOG_DROP (R197). -/
structure DropArgs where
  k : Nat
  expected : Option (BitVec 16)
deriving DecidableEq, Repr

/-- Which of a lane's two pending passage entries a passage deadline belongs to (R60). -/
inductive WhichEntry where
  | older | younger
deriving DecidableEq, Repr

/-- What the flash's status shows at the end of a suspend (R179). -/
inductive SuspendStatus where
  | suspended
  | ended (good : Bool)
deriving DecidableEq, Repr

/-- The bytes the flash delivers for one page read: the first read and, should the check fail, the first and
second re-read (R173). Reads that the port does not make are not looked at. -/
structure FlashReads where
  first : Page
  second : Page
  third : Page
deriving DecidableEq, Repr

/-- The commands: one constructor per row of spec/opcode_table.json, in the table's order. -/
inductive Instr where
  | tap (lane : LaneId) (fields : List Byte)
  | take (lane : LaneId)
  | wroteOk (lane : LaneId)
  | wroteFailed (lane : LaneId)
  | laneStatus (lane : LaneId)
  | laneBadFrame (lane : LaneId)
  | laneUnknownMessage (lane : LaneId)
  | arrive (berth : BerthId) (fields : Fields ArriveArgs)
  | rampOpen (berth : BerthId) (fields : Fields Unit)
  | countQuery (berth : BerthId) (fields : Fields Unit)
  | departReq (berth : BerthId) (fields : Fields Unit)
  | handoverTaken (berth : BerthId) (fields : Fields Unit)
  | dockBadFrame (berth : BerthId)
  | dockUnknownMessage (berth : BerthId)
  | silenceDeadline (berth : BerthId)
  | closingDeadline (berth : BerthId)
  | berthCommit (berth : BerthId) (lane : LaneId)
  | berthRelease (berth : BerthId) (lane : LaneId)
  | rawLevelChange (lane : LaneId) (level : Level)
  | debounceDeadline (lane : LaneId)
  | blockedDeadline (lane : LaneId)
  | verdictDeadline (lane : LaneId)
  | takeDeadline (lane : LaneId)
  | writeDeadline (lane : LaneId)
  | passageDeadline (lane : LaneId) (which : WhichEntry)
  | calendarSecond
  | readStatus (fields : Fields Unit)
  | readStats (fields : Fields Bool)
  | setClock (fields : Fields ClockArgs)
  | setLane (fields : Fields LaneArgs)
  | setLanding (fields : Fields LandingArgs)
  | writeFare (fields : Fields WriteFareArgs)
  | readFare (fields : Fields ReadFareArgs)
  | stagePlan (fields : Fields PlanArgs)
  | cancelPlan (fields : Fields Nat)
  | setCap (fields : Fields CapArgs)
  | closeBerth (fields : Fields Nat)
  | reopenBerth (fields : Fields Nat)
  | forceVacate (fields : Fields Nat)
  | laneClear (fields : Fields Nat)
  | listBegin (fields : Fields Unit)
  | listAdd (fields : Fields (List AddEntry))
  | listCommit (fields : Fields Unit)
  | logPeek (fields : Fields Nat)
  | logDrop (fields : Fields DropArgs)
  | storeSettings (fields : Fields Unit)
  | restart (fields : Fields Unit)
  | rttQuery (fields : Fields TokenId)
  | emptyFrame
  | stationBadFrame
  | stationUnknownCommand (kind : Byte)
  | portGrant
  | suspendIssue
  | suspendEnd (status : SuspendStatus)
  | pageReadEnd (reads : FlashReads)
  | pageProgramEnd (good : Bool)
  | sectorEraseEnd (good : Bool)
  | flashResetEnd
  | operationTimeLimit
  | resetInputAssert
  | resetInputRelease
  | coreSupplyRise (retentionLow : Bool)
  | coreSupplyFall
  | retentionSupplyDip
  | flashReadyTimeout
deriving DecidableEq, Repr

end Sys2Proof
end

