-- ==== Sys2Proof/Config.lean ====
section
/-!
DEFINITION. What the spec leaves to the part: constants with no body, of which nothing can be proved.
A claim that goes through one of them holds whatever its value.
-/
namespace Sys2Proof

/-- FREE (log 5, DESIGN CHOICE): what the 48-bit millisecond time base holds one millisecond after 2^48 - 1. R88
gives the width and neither says that it wraps nor that it saturates. -/
opaque Config.timeBaseAfterTop : BitVec 48

/-- FREE (log 21): the day of a commit taken while the calendar is NOT_SET. R137 says that this does not arise. -/
opaque Config.unsetDay : Nat

/-- FREE (log 21): the second of a commit taken while the calendar is NOT_SET. -/
opaque Config.unsetSecond : Nat

/-- FREE (log 12, DESIGN CHOICE): the marker STORED of the settings image's header. R183 names it and gives no value. -/
opaque Config.storedMarker : BitVec 32

/-- FREE (log 12): the place of each byte of the settings image's header before its check. -/
opaque Config.imageHeaderPlaces : Equiv.Perm (Fin 254)

/-- FREE (log 12): the place of each byte of flash page 10,273 before its check. -/
opaque Config.settingsPagePlaces : Equiv.Perm (Fin 254)

/-- FREE (log 12): the code in page 10,273 of the byte that numbers a lane role in the order of R39. -/
opaque Config.imageRoleCode : Equiv.Perm Byte

/-- FREE (log 12): the code in page 10,273 of the byte that numbers a fail policy, OPEN 0 and CLOSED 1. -/
opaque Config.imagePolicyCode : Equiv.Perm Byte

/-- FREE (log 12): the code in page 10,273 of the byte that numbers the setting "log refusals", off 0 and on 1. -/
opaque Config.imageSwitchCode : Equiv.Perm Byte

/-! FREE (log 35, DESIGN CHOICE): the kind bytes of replies. R222 gives their place in the frame, and their value for
VERDICT alone. -/

/-- FREE (log 35): the kind of TAP_REPLY. -/
opaque Config.tapReplyKind : Byte

/-- FREE (log 35): the kind of WROTE_REPLY. -/
opaque Config.wroteReplyKind : Byte

/-- FREE (log 35): the kind of STATUS_REPLY. -/
opaque Config.statusReplyKind : Byte

/-- FREE (log 35): the kind of BAD_FRAME on a lane link. -/
opaque Config.laneBadFrameKind : Byte

/-- FREE (log 35): the kind of UNKNOWN_MESSAGE on a lane link. -/
opaque Config.laneUnknownKind : Byte

/-- FREE (log 35): the kind of ARRIVE_REPLY. -/
opaque Config.arriveReplyKind : Byte

/-- FREE (log 35): the kind of RAMP_REPLY. -/
opaque Config.rampReplyKind : Byte

/-- FREE (log 35): the kind of COUNT_REPLY. -/
opaque Config.countReplyKind : Byte

/-- FREE (log 35): the kind of DEPART_REPLY. -/
opaque Config.departReplyKind : Byte

/-- FREE (log 35): the kind of HANDOVER_REPLY. -/
opaque Config.handoverReplyKind : Byte

/-- FREE (log 35): the kind of REFUSED on a dock link. -/
opaque Config.dockRefusedKind : Byte

/-- FREE (log 35): the kind of OK at the station port. -/
opaque Config.okReplyKind : Byte

/-- FREE (log 35): the kind of REFUSED at the station port. -/
opaque Config.refusedReplyKind : Byte

/-- FREE (log 35): the kind of BAD_FRAME at the station port. -/
opaque Config.badFrameReplyKind : Byte

/-- FREE (log 35): the kind of NONE. -/
opaque Config.noneReplyKind : Byte

end Sys2Proof
end

