-- ==== Sys2Proof/Machine/State.lean ====
section
/-!
DEFINITION. The state of the LB-6 as plain data, the reasons a step can stop, and the state after reset.
A time on the millisecond time base is a `Nat` (R89: a deadline is the time base at the setting plus n milliseconds).
-/
namespace Sys2Proof.Machine

/-! ## Clock and keep unit -/

/-- A calendar time: a day and a second of day (R84). -/
structure CalTime where
  day : Nat
  second : Nat
deriving DecidableEq, Repr

/-- The millisecond time base, the landing calendar (`none`: NOT_SET) and its phase (R84, R88). `secondsDue`: the
model's own field, the calendar seconds that have passed and whose CALENDAR_SECOND is not yet taken (log 4). -/
structure Clock where
  timeBase : Nat
  calendar : Option CalTime
  phase : Nat
  secondsDue : Nat
deriving DecidableEq, Repr

/-- The reset cause (R215). -/
inductive ResetCause where
  | powerOn | resetLine | stationRestart | keepLost
deriving DecidableEq, Repr

/-- The restart mark NONE, WARM or COLD (R217). -/
inductive RestartMark where
  | unmarked | warm | cold
deriving DecidableEq, Repr

/-- Where a cold start stands (R220): waiting for the flash with the milliseconds waited (step 2), reading the
settings image (step 3: the header, then the content pages with those already read), or reading the bank headers
(step 4; bank A's judged generation, `none` when its header is invalid). -/
inductive ColdStage where
  | flashReset (waited : Nat)
  | imageHeader
  | imageContent (pages : List Page)
  | bankHeaderA
  | bankHeaderB (generationA : Option Nat)
deriving DecidableEq, Repr

/-- The step of R218 that a warm restart takes next; step 1 is taken with the judgement (R217, log 14). -/
inductive WarmStage where
  | suspendCalls | endHoldings | restartRest | record | finish
deriving DecidableEq, Repr

/-- Whether the part runs, is held in reset (with the reset that the release will begin: POWER_ON for a cold one,
RESET_LINE for a warm one), is in a warm restart with kept state valid, or is in a cold start (R216, R218 to R220). -/
inductive Run where
  | running
  | held (begun : ResetCause)
  | warmRestart (next : WarmStage)
  | coldStart (stage : ColdStage)
deriving DecidableEq, Repr

/-- The keep half of the clock and keep unit, with the reset and supply pins (R215 to R217). `dayChange`: a change of
day was made during a hold and is not yet handed to the recent-tap table (R216). -/
structure Keep where
  run : Run
  resetCause : ResetCause
  latch : Bool
  mark : RestartMark
  resetInput : Bool
  coreUp : Bool
  dayChange : Bool
deriving DecidableEq, Repr

/-! ## Tokens, fares, verdicts -/

/-- The two media (R91). -/
inductive Medium where
  | card | code
deriving DecidableEq, Repr

/-- The role classes (R39). -/
inductive RoleClass where
  | entry | board
deriving DecidableEq, Repr

/-- The classes of an admission (R101). -/
inductive FareClass where
  | fare | transfer | pass
deriving DecidableEq, Repr

/-- A CARD's last admission as its record carries it (R91). -/
structure CardAdmission where
  time : CalTime
  landing : Nat
  line : Nat
  roleClass : RoleClass
deriving DecidableEq, Repr

/-- A token record (R91). For a CODE, rides, stored value and last admission are ignored. -/
structure TokenRecord where
  id : TokenId
  medium : Medium
  productCode : Nat
  validFrom : Nat
  validUntil : Nat
  rides : Nat
  storedValue : Nat
  usesAllowed : Nat
  last : Option CardAdmission
deriving DecidableEq, Repr

/-- The role mask of a fare entry (R94). -/
structure RoleMask where
  entry : Bool
  board : Bool
deriving DecidableEq, Repr

/-- The terminal kinds with what the charge needs of them (R94, R98). -/
inductive TerminalKind where
  | pass | rides | value (amount : Nat) | ticket
deriving DecidableEq, Repr

/-- A fare table entry (R94). -/
inductive FareEntry where
  | empty
  | terminal (kind : TerminalKind) (mask : RoleMask) (window : Nat)
  | redirect (bandStart bandEnd inCode outCode : Nat)
deriving DecidableEq, Repr

/-- An evaluation's resolved product: page, index, and the copy of kind, window and amount (R98). -/
structure Product where
  page : Nat
  index : Nat
  kind : TerminalKind
  window : Nat
deriving DecidableEq, Repr

/-- The deny flags: none, UNCHECKED, or FLAGGED with the deny reason (R107, R117). -/
inductive DenyFlags where
  | clear
  | unchecked
  | flagged (reason : Nat)
deriving DecidableEq, Repr

/-- The refusal reasons of a verdict (5.6, R225). -/
inductive Reason where
  | notServing | laneBlocked | laneBusy | clockUnset | notBoarding | closed | linkLost | unknownProduct
  | tableLoop | wrongMedium | notValidHere | notYetValid | expired | passback | spent | denied
  | listUnavailable | noRides | lowValue | tableFull | logFull | full
deriving DecidableEq, Repr

/-- The rides and stored value of a CARD, remaining or new (R102, R103). -/
structure Balance where
  rides : Nat
  storedValue : Nat
deriving DecidableEq, Repr

/-- The new card content of a CARD admission (R103). -/
structure CardContent where
  balance : Balance
  last : CardAdmission
deriving DecidableEq, Repr

/-- The arrival time of a TAP: the landing calendar (absent when NOT_SET) and the time base (R44). -/
structure Arrival where
  calendar : Option CalTime
  base : Nat
deriving DecidableEq, Repr

/-- An evaluation that has passed checks 1 to 7 (R107): what the context keeps from the TAP. -/
structure Evaluation where
  token : TokenRecord
  time : CalTime
  base : Nat
  roleClass : RoleClass
  line : Nat
  product : Product
deriving DecidableEq, Repr

/-- An ADMIT verdict in DECIDED, which is the lane's offer, with what the context keeps for it (R107, R125). -/
structure Offer where
  tokenId : TokenId
  medium : Medium
  time : CalTime
  base : Nat
  roleClass : RoleClass
  line : Nat
  product : Product
  fareClass : FareClass
  charge : Nat
  remaining : Option Balance
  flags : DenyFlags
  content : Option CardContent
deriving DecidableEq, Repr

/-- A REFUSE verdict in DECIDED, with what the context keeps for it (R107, R125). `flags` are the deny check's, clear
when it was not passed; `denyReason` is a DENIED verdict's. -/
structure Refused where
  tokenId : TokenId
  arrival : Arrival
  roleClass : Option RoleClass
  line : Option Nat
  product : Option Product
  reason : Reason
  denyReason : Option Nat
  flags : DenyFlags
  remaining : Option Balance
deriving DecidableEq, Repr

/-- A lane's evaluation context (R107): FREE; WAITING_LIST with its verdict deadline; DECIDED with an offer or a
REFUSE. The lookup handle is the lane, since the queue holds at most one lookup per lane (R152). -/
inductive Context where
  | free
  | waiting (e : Evaluation) (deadline : Nat)
  | offer (o : Offer)
  | refused (r : Refused)
deriving DecidableEq, Repr

/-! ## Lanes -/

/-- The confirmation of a pending passage entry (R53). -/
inductive Confirmation where
  | confirmed | unconfirmed | notNeeded
deriving DecidableEq, Repr

/-- The phase of a pending passage entry (R53). -/
inductive EntryPhase where
  | awaitWrite | awaitPassage
deriving DecidableEq, Repr

/-- A pending passage entry (R53). `berth` and `line` are present on boarding lanes. -/
structure Entry where
  tokenId : TokenId
  medium : Medium
  phase : EntryPhase
  confirmation : Confirmation
  fareClass : FareClass
  charge : Nat
  page : Nat
  index : Nat
  berth : Option BerthId
  line : Option Nat
  tapTime : CalTime
  deadline : Nat
  flags : DenyFlags
deriving DecidableEq, Repr

/-- The nine lane statistics (R67). -/
structure LaneStats where
  taps : Nat
  committed : Nat
  refused : Nat
  voided : Nat
  tailgates : Nat
  offersDropped : Nat
  deadlineDecisions : Nat
  tapsSuperseded : Nat
  badFrames : Nat
deriving DecidableEq, Repr

/-- A lane's passage conditioner (R70), with the raw level of its passage line (a pin). -/
structure Conditioner where
  level : Level
  debounceDeadline : Option Nat
  occupiedSince : Option Nat
  blockedDeadline : Option Nat
  blocked : Bool
  raw : Level
deriving DecidableEq, Repr

/-- The phase of a context as LANE_STATUS shows it (R66). -/
inductive ContextPhase where
  | free | waitingList | decidedOffer | decidedRefuse
deriving DecidableEq, Repr

/-- One entry as LANE_STATUS shows it (R66). -/
structure EntryReport where
  phase : EntryPhase
  confirmation : Confirmation
  tokenId : TokenId
deriving DecidableEq, Repr

/-- The replies on a lane link (R43). A VERDICT is its whole frame (R222, R225). -/
inductive LaneReply where
  | tapStarted
  | tapBadToken
  | verdict (frame : List Byte)
  | wroteOk
  | wroteNothingPending
  | status (role : Role) (level : Level) (blocked : Bool) (phase : ContextPhase) (entries : List EntryReport)
  | badFrame
  | unknownMessage
deriving DecidableEq, Repr

/-- One lane: its lane interface, its evaluation context and its passage conditioner. `takeHeld`: a TAKE is held
(R51). `reply`: the model's own field, the reply last formed on the lane link (log 16). -/
structure Lane where
  role : Role
  settings : LaneSettings
  ctx : Context
  takeDeadline : Option Nat
  entries : List Entry
  takeHeld : Bool
  stats : LaneStats
  cond : Conditioner
  reply : Option LaneReply
deriving DecidableEq, Repr

/-! ## Berths -/

/-- The stage of an open call: the call state when the call is not suspended, the prior state when it is (R1). -/
inductive Stage where
  | alighting | boarding | closing | handover
deriving DecidableEq, Repr

/-- The call state of a berth as messages and reports give it (R1). -/
inductive CallState where
  | vacant | alighting | boarding | closing | handover | suspended
deriving DecidableEq, Repr

/-- A message a lane has sent to its berth and the berth has not yet taken (R7). -/
inductive Holding where
  | commit | release
deriving DecidableEq, Repr

/-- The berth record of an open call (R1); the berth is VACANT when there is none. `inFlight`: commits and releases
sent and not yet taken, oldest first, each with the lane that sent it (R7, R26). -/
structure Call where
  stage : Stage
  suspended : Bool
  vesselId : Nat
  line : Nat
  declaredCap : Nat
  effectiveCap : Nat
  arrivalOnBoard : Nat
  onBoard : Nat
  reserved : Nat
  boarded : Nat
  alighted : Nat
  unmatched : Nat
  tailgates : Nat
  arrival : Option CalTime
  isOver : Bool
  grace : Option Nat
  closingDeadline : Option Nat
  silenceDeadline : Option Nat
  inFlight : List (LaneId × Holding)
deriving DecidableEq, Repr

/-- The reasons of a refused ARRIVE (R9, R11). -/
inductive ArriveRefusal where
  | badArrival | logFull | berthOccupied
deriving DecidableEq, Repr

/-- The replies on a dock link; each carries the berth's state after the message (R5). -/
inductive DockReply where
  | arriveAccepted (state : CallState) (planApplied : Bool) (effectiveCap line : Nat)
  | arriveResumed (state : CallState) (effectiveCap line onBoard : Nat)
  | arriveAlready (state : CallState) (effectiveCap line onBoard : Nat)
  | arriveRefused (state : CallState) (reason : ArriveRefusal)
  | rampOk (state : CallState)
  | rampAlready (state : CallState)
  | rampWrongState (state : CallState)
  | rampNeedArrive (state : CallState)
  | count (state : CallState) (prior : Option Stage) (onBoard reserved boarded alighted tailgates effectiveCap : Nat)
      (isOver : Bool)
  | departClosing (state : CallState) (reserved : Nat)
  | departHandover (state : CallState) (onBoard boarded alighted tailgates unmatched : Nat)
  | departWrongState (state : CallState)
  | departNeedArrive (state : CallState)
  | handoverOk (state : CallState)
  | handoverWrongState (state : CallState)
  | handoverNeedArrive (state : CallState)
  | refusedBadMessage (state : CallState)
  | refusedUnknownMessage (state : CallState)
deriving DecidableEq, Repr

/-- One berth: its record (`none`: VACANT), its staged plan, and the model's own field for the reply last formed on
the dock link (log 16). -/
structure Berth where
  call : Option Call
  plan : Option Plan
  reply : Option DockReply
deriving DecidableEq, Repr

/-! ## Recent-tap table -/

/-- A last admission in the recent-tap table (R130). -/
structure TableAdmission where
  time : CalTime
  lane : LaneId
  berth : Option BerthId
  line : Nat
  roleClass : RoleClass
deriving DecidableEq, Repr

/-- An entry of the recent-tap table (R130). -/
structure TapEntry where
  tokenId : TokenId
  medium : Medium
  held : Bool
  uses : Nat
  last : Option TableAdmission
  commitTime : Option Nat
  pinDay : Option Nat
  pinned : Bool
deriving DecidableEq, Repr

/-! ## Deny list unit -/

/-- The two banks (R145). -/
inductive Bank where
  | bankA | bankB
deriving DecidableEq, Repr

/-- The standby state (R156). -/
inductive Standby where
  | stale | erasing | opened | committing | fault
deriving DecidableEq, Repr

/-- A deny list entry: a slot of a deny page (R147). -/
structure DenyEntry where
  tokenId : TokenId
  action : Action
  reason : Nat
deriving DecidableEq, Repr

/-- The content of a deny page: its entries and its next page, an overflow index or none (R147). -/
structure DenyPage where
  entries : List DenyEntry
  next : Option Nat
deriving DecidableEq, Repr

/-- The writer page buffer when it is not empty (R159): bucket, chain position, target bank page, entries. -/
structure Buffer where
  bucket : Nat
  position : Nat
  target : Nat
  entries : List DenyEntry
deriving DecidableEq, Repr

/-- A lookup in the queue (R152). `nextPage` is a bank page. -/
structure Lookup where
  lane : LaneId
  tokenId : TokenId
  bucket : Nat
  captured : Option Bank
  nextPage : Nat
  position : Nat
  reading : Bool
deriving DecidableEq, Repr

/-- The rebuild scan: its position and its fresh filter (R150). -/
structure Rebuild where
  position : Nat
  fresh : BitVec 4096
deriving DecidableEq, Repr

/-- The deny list unit (R150). -/
structure DenyUnit where
  selector : Bank
  noList : Bool
  generation : Nat
  activeFilter : BitVec 4096
  standbyFilter : BitVec 4096
  standby : Standby
  buffer : Option Buffer
  entriesTaken : Nat
  overflowUsed : Nat
  queue : List Lookup
  rebuild : Option Rebuild
deriving DecidableEq, Repr

/-! ## List flash port -/

/-- Who asked for a page read (R171, R174): the lookup at the head of the queue, a lookup withdrawn since, the
rebuild scan, or a start-up read. -/
inductive Requester where
  | lookup | withdrawn | rebuild | startUp
deriving DecidableEq, Repr

/-- The operation in progress at the flash (R171). Pages and sectors count from the start of the flash. -/
inductive FlashOp where
  | pageRead (who : Requester) (page : Nat)
  | pageProgram (page : Nat) (bytes : Page) (issued : Nat)
  | sectorErase (sector : Nat)
  | suspend (sector : Nat)
  | reset
deriving DecidableEq, Repr

/-- A sector erase issued and not ended: its sector, its phase RUNNING or SUSPENDED, its time of issue (R172, R182). -/
structure HeldErase where
  sector : Nat
  suspended : Bool
  issued : Nat
deriving DecidableEq, Repr

/-- The six landing settings (R207). -/
structure LandingSettings where
  landingId : Nat
  passback : Nat
  failPolicy : FailPolicy
  logRefusals : Bool
  watermark : Nat
  closingGrace : Nat
deriving DecidableEq, Repr

/-- The working settings that STORE_SETTINGS copies and a valid settings image gives (R183 to R185). -/
structure SettingsCopy where
  fare : List FareEntry
  lanes : PerLane (Role × LaneSettings)
  landing : LandingSettings
deriving DecidableEq, Repr

/-- The background job with its next operation (R175): a list erase at the sector of its order, a flush with its
target bank page and content, a commit (with its closing flush while that is still to end), the rebuild scan, a
settings store with its copy at the operation of its order. -/
inductive Job where
  | listErase (index : Nat)
  | flush (bankPage : Nat) (content : DenyPage)
  | commit (closing : Option (Nat × DenyPage))
  | rebuild
  | settingsStore (copy : SettingsCopy) (index : Nat)
deriving DecidableEq, Repr

/-- The settings store state (R172). -/
inductive StoreState where
  | idle | storing | stored | fault
deriving DecidableEq, Repr

/-- The settings source (R172). -/
inductive SettingsSource where
  | image | defaults
deriving DecidableEq, Repr

/-- A grant the free port has decided by R177 and PORT_GRANT carries out (R178, log 19): the head lookup's page read,
with whether a background operation waited, or the background job's operation. -/
inductive Grant where
  | lookup (jobWaits : Bool)
  | job
deriving DecidableEq, Repr

/-- The list flash port (R172). `due`: the grant decided among the requests standing when the port became free, or at
the first request that reached the free port (R178). -/
structure FlashPort where
  op : Option FlashOp
  due : Option Grant
  held : Option HeldErase
  suspendCount : Nat
  runSince : Option Nat
  streak : Nat
  job : Option Job
  store : StoreState
  source : SettingsSource
deriving DecidableEq, Repr

/-! ## Trip log -/

/-- The void reasons (R63). -/
inductive VoidReason where
  | noPassage | writeFailed | closed | linkLost | forced | cleared | restart
deriving DecidableEq, Repr

/-- What a BOARD and an ENTRY record carry of the entry (R78). -/
structure CommitContent where
  time : Option CalTime
  lane : LaneId
  tokenId : TokenId
  page : Nat
  index : Nat
  fareClass : FareClass
  charge : Nat
  confirmation : Confirmation
  flags : DenyFlags
deriving DecidableEq, Repr

/-- A DEPARTURE record's content (R8). -/
structure DepartureContent where
  vesselId : Nat
  line : Nat
  arrival : Option CalTime
  departure : Option CalTime
  arrivalOnBoard : Nat
  boarded : Nat
  alighted : Nat
  unmatched : Nat
  tailgates : Nat
  onBoard : Nat
  noHandover : Bool
deriving DecidableEq, Repr

/-- The record kinds with their content (R189). -/
inductive Content where
  | board (berth : BerthId) (c : CommitContent)
  | entry (c : CommitContent)
  | void (time : Option CalTime) (lane : LaneId) (berth : Option BerthId) (tokenId : TokenId) (page index : Nat)
      (charge : Nat) (confirmation : Confirmation) (reason : VoidReason)
  | refusal (time : Option CalTime) (lane : LaneId) (tokenId : TokenId) (reason : Reason) (denyReason : Option Nat)
  | tailgate (time : Option CalTime) (lane : LaneId) (berth : Option BerthId)
  | departure (c : DepartureContent)
  | clockSet (old : Option CalTime) (new : CalTime)
  | listCommit (time : Option CalTime) (generation entryCount : Nat)
  | restart (time : Option CalTime) (cause : ResetCause)
deriving DecidableEq, Repr

/-- A record of the trip log: its sequence number and its content (R188). -/
structure Record where
  seq : BitVec 16
  content : Content
deriving DecidableEq, Repr

/-- The trip log: records oldest first, reserve count, next sequence number (R187). -/
structure TripLog where
  records : List Record
  reserve : Nat
  nextSeq : BitVec 16
deriving DecidableEq, Repr

/-! ## Station port -/

/-- The five latched attention causes (R208). -/
structure Causes where
  berthEvent : Bool
  laneFault : Bool
  listDone : Bool
  settingsDone : Bool
  restarted : Bool
deriving DecidableEq, Repr

/-- The six landing statistics (R212). -/
structure LandingStats where
  unlogged : Nat
  lookupsStarted : Nat
  pageReReads : Nat
  unreadablePages : Nat
  eraseSuspends : Nat
  strayPassages : Nat
deriving DecidableEq, Repr

/-- The command kinds a station reply names (10.2); `unknown` carries the kind the frame gave. -/
inductive Command where
  | readStatus | readStats | setClock | setLane | setLanding | writeFare | readFare | stagePlan | cancelPlan
  | setCap | closeBerth | reopenBerth | forceVacate | laneClear | listBegin | listAdd | listCommit | logPeek
  | logDrop | storeSettings | restart | rttQuery
  | unknown (kind : Byte)
deriving DecidableEq, Repr

/-- The reasons of a REFUSED station reply (R204). -/
inductive StationReason where
  | unknownCommand | badArgument | busy | wrongState | order | duplicate | chainFull | overflowFull
  | generationLimit | wrongSequence
deriving DecidableEq, Repr

/-- The berth part of READ_STATUS (R210); the optional fields are absent at a VACANT berth. -/
structure BerthReport where
  state : CallState
  prior : Option Stage
  vesselId : Option Nat
  onBoard : Option Nat
  reserved : Option Nat
  effectiveCap : Option Nat
  isOver : Bool
  planStaged : Bool
deriving DecidableEq, Repr

/-- The phase of a context as READ_STATUS shows it (R66, R210). -/
inductive SummaryPhase where
  | free | waitingList | decided
deriving DecidableEq, Repr

/-- The lane part of READ_STATUS (R66, R210). -/
structure LaneReport where
  role : Role
  blocked : Bool
  phase : SummaryPhase
  entries : Nat
deriving DecidableEq, Repr

/-- The deny list part of READ_STATUS (R150, R210): `bank` is absent under NO_LIST, `totals` outside OPEN and
COMMITTING. -/
structure ListReport where
  bank : Option Bank
  generation : Nat
  standby : Standby
  rebuilding : Bool
  totals : Option (Nat × Nat)
deriving DecidableEq, Repr

/-- The READ_STATUS reply's data (R210); the reset cause is its code (R228). -/
structure StatusReport where
  causes : Causes
  watermark : Bool
  calendar : Option CalTime
  resetCause : Byte
  berths : PerBerth BerthReport
  lanes : PerLane LaneReport
  recordCount : Nat
  reserve : Nat
  oldestSeq : Option (BitVec 16)
  nextSeq : BitVec 16
  list : ListReport
  store : StoreState
  source : SettingsSource
deriving DecidableEq, Repr

/-- What RTT_QUERY returns of a token's entry (R142); the commit time is not returned. -/
structure FoundEntry where
  medium : Medium
  held : Bool
  uses : Nat
  last : Option TableAdmission
  pinDay : Option Nat
  pinned : Bool
  ageRank : Nat
deriving DecidableEq, Repr

/-- The data a station reply carries (R204 and the owners' rules). -/
inductive StationData where
  | nothing
  | status (r : StatusReport)
  | stats (lanes : PerLane LaneStats) (landing : LandingStats)
  | fare (entry : List Byte)
  | cap (effectiveCap : Nat)
  | berthState (state : CallState)
  | cleared (voided : Nat) (dropped : Bool)
  | taken (count : Nat)
  | records (count reserve : Nat) (records : List (List Byte))
  | dropped (count : Nat) (oldestSeq : Option (BitVec 16))
  | tapTable (entries held pinned evictable : Nat) (found : Option FoundEntry)
deriving DecidableEq, Repr

/-- What a station transfer shifts out: a reply of R204, or idle bytes during a restart (R214). -/
inductive StationReply where
  | none
  | badFrame
  | ok (command : Command) (data : StationData)
  | refused (command : Command) (reason : StationReason) (data : StationData)
  | idle
deriving DecidableEq, Repr

/-- The station port (R202, R207, R208, R212). `shiftedOut`: the model's own field, what the latest transfer shifted
out (log 16). -/
structure Station where
  pendingReply : Option StationReply
  shiftedOut : Option StationReply
  causes : Causes
  landing : LandingSettings
  stats : LandingStats
deriving DecidableEq, Repr

/-! ## The whole part -/

/-- The state of the LB-6, and the queue of commands that wait, first in, first out. `asked`: the REFUSAL records of
LOG_FULL decisions that the trip log is asked for and has not yet taken (R126, R195, log 34). -/
structure State where
  clock : Clock
  keep : Keep
  lanes : PerLane Lane
  berths : PerBerth Berth
  fare : List FareEntry
  taps : List TapEntry
  deny : DenyUnit
  port : FlashPort
  log : TripLog
  asked : List Content
  station : Station
  pending : List Instr
deriving DecidableEq, Repr

/-- Why the part stops. No rule of the spec stops it. -/
inductive Fault where
  /-- Raised by nothing: every command has an outcome in every state. Safe. -/
  | partStopped
deriving DecidableEq, Repr

/-- Why a command has no meaning. -/
inductive Refusal where
  /-- Raised by an arm of `exec` whose command is not modelled; no arm is so. Safe. -/
  | notModelled (mnemonic : String)
deriving DecidableEq, Repr

/-! ## Reset -/

/-- The lane settings with no valid settings image (R40). -/
def LaneSettings.default : LaneSettings :=
  { verdictDeadline := 300, writeTimeout := 2000, passageTimeout := 10, debounce := 20, homeLine := 0 }

/-- The landing settings with no valid settings image (R207). -/
def LandingSettings.default : LandingSettings :=
  { landingId := 1, passback := 60, failPolicy := .opened, logRefusals := false, watermark := 768,
    closingGrace := 20 }

/-- Every lane statistic at 0 (R67, R69). -/
def LaneStats.zero : LaneStats :=
  { taps := 0, committed := 0, refused := 0, voided := 0, tailgates := 0, offersDropped := 0,
    deadlineDecisions := 0, tapsSuperseded := 0, badFrames := 0 }

/-- Every landing statistic at 0 (R212). -/
def LandingStats.zero : LandingStats :=
  { unlogged := 0, lookupsStarted := 0, pageReReads := 0, unreadablePages := 0, eraseSuspends := 0,
    strayPassages := 0 }

/-- No cause latched. -/
def Causes.none : Causes :=
  { berthEvent := false, laneFault := false, listDone := false, settingsDone := false, restarted := false }

/-- A passage conditioner started afresh before it reads the raw line (R70, R83). -/
def Conditioner.fresh (raw : Level) : Conditioner :=
  { level := .clear, debounceDeadline := Option.none, occupiedSince := Option.none,
    blockedDeadline := Option.none, blocked := false, raw := raw }

/-- A lane's initial values (R69, R70), with the role and settings of no valid image. -/
def Lane.initial (raw : Level) : Lane :=
  { role := .off, settings := LaneSettings.default, ctx := .free, takeDeadline := none, entries := [],
    takeHeld := false, stats := LaneStats.zero, cond := Conditioner.fresh raw, reply := none }

/-- A berth's initial values (R1). -/
def Berth.initial : Berth := { call := none, plan := none, reply := none }

/-- The fare table with every entry EMPTY (R94). -/
def fareEmpty : List FareEntry := List.replicate 512 .empty

/-- The deny list unit's values before the bank choice; those that come from it stand as for two invalid headers
(R150, R166). -/
def DenyUnit.initial : DenyUnit :=
  { selector := .bankB, noList := true, generation := 0, activeFilter := BitVec.allOnes 4096, standbyFilter := 0,
    standby := .stale, buffer := none, entriesTaken := 0, overflowUsed := 0, queue := [], rebuild := none }

/-- The list flash port with no operation, no grant, no held erase and no job, its counts at 0 (R172, R220 step 1). -/
def FlashPort.initial : FlashPort :=
  { op := none, due := none, held := none, suspendCount := 0, runSince := none, streak := 0, job := none, store := .idle,
    source := .defaults }

/-- The trip log emptied (R187). -/
def TripLog.initial : TripLog := { records := [], reserve := 0, nextSeq := 0 }

/-- The station port's initial values, no cause latched yet (R214). -/
def Station.initial : Station :=
  { pendingReply := none, shiftedOut := none, causes := Causes.none, landing := LandingSettings.default,
    stats := LandingStats.zero }

/-- The same value at every lane. -/
def PerLane.all {α : Type} (f : α) : PerLane α :=
  { l0 := f, l1 := f, l2 := f, l3 := f, l4 := f, l5 := f, l6 := f, l7 := f }

/-- The part right after a reset: the end of a cold start with cause POWER_ON whose start-up reads found every page
erased, so no valid settings image and no valid bank header (log 6). RESTARTED is latched (R214, R220 step 6). -/
def State.reset : State :=
  { clock := { timeBase := 0, calendar := none, phase := 0, secondsDue := 0 }
    keep := { run := .running, resetCause := .powerOn, latch := false, mark := .unmarked, resetInput := false,
              coreUp := true, dayChange := false }
    lanes := PerLane.all (Lane.initial .clear)
    berths := { a := Berth.initial, b := Berth.initial }
    fare := fareEmpty
    taps := []
    deny := DenyUnit.initial
    port := FlashPort.initial
    log := TripLog.initial
    asked := []
    station := { Station.initial with causes := { Causes.none with restarted := true } }
    pending := [] }

end Sys2Proof.Machine
end

