-- ==== Sys2Proof/Machine/Codec.lean ====
section
/-!
DEFINITION. Bytes: byte order, the check, the codes of R222, and the layouts the part writes (R225, R226, R228, R229).
The layouts it reads are in Operands.lean.
-/
namespace Sys2Proof.Machine

/-- FREE (log 35): the field bytes of a lane reply. R43 and R66 give what they carry and no layout. -/
opaque Config.laneReplyFields : LaneReply → List Byte

/-- FREE (log 35): the field bytes of a dock reply. R5 and R15 give what they carry and no layout. -/
opaque Config.dockReplyFields : DockReply → List Byte

/-- FREE (log 35): the field bytes of a station reply before those a layout gives. R204 gives what they carry. -/
opaque Config.stationFieldsBefore : StationReply → List Byte

/-- FREE (log 35): the field bytes of a station reply after those a layout gives. -/
opaque Config.stationFieldsAfter : StationReply → List Byte

/-- Byte `i` of a list, 0 past its end. -/
def byteAt (bs : List Byte) (i : Nat) : Byte := bs.getD i 0

/-- The number that bytes spell, most significant byte first (R222). -/
def bytesToNat (bs : List Byte) : Nat := bs.foldl (fun n b => n * 256 + b.toNat) 0

/-- The number in the `len` bytes from `start`, most significant first (R222). -/
def numAt (bs : List Byte) (start len : Nat) : Nat := bytesToNat ((bs.drop start).take len)

/-- A number in `len` bytes, most significant byte first (R222). -/
def natBytes : Nat → Nat → List Byte
  | 0, _ => []
  | len + 1, n => natBytes len (n / 256) ++ [BitVec.ofNat 8 n]

/-- `n` unused bytes of a frame or trip record (R222). -/
def zeros (n : Nat) : List Byte := List.replicate n 0x00

/-- `n` unused bytes of a flash page (R222). -/
def blanks (n : Nat) : List Byte := List.replicate n 0xFF

/-- One bit of the check's register: generator x^16 + x^12 + x^5 + 1, most significant bit first (R222). -/
def checkBit (r : BitVec 16) : BitVec 16 := if r.msb then (r <<< 1) ^^^ 0x1021#16 else r <<< 1

/-- One byte into the check's register (R222). -/
def checkByte (r : BitVec 16) (b : Byte) : BitVec 16 :=
  let r0 := r ^^^ (b.setWidth 16 <<< 8)
  checkBit (checkBit (checkBit (checkBit (checkBit (checkBit (checkBit (checkBit r0)))))))

/-- The check over bytes: register from all ones, no final inversion (R222). -/
def crc16 (bs : List Byte) : BitVec 16 := bs.foldl checkByte 0xFFFF#16

/-- Bytes followed by their check, most significant byte first (R222). -/
def withCheck (bs : List Byte) : List Byte := bs ++ natBytes 2 (crc16 bs).toNat

/-- A frame of a kind with its fields: length, kind, fields, check (R222). -/
def frame (kind : Byte) (fields : List Byte) : List Byte :=
  withCheck (natBytes 2 (fields.length + 3) ++ kind :: fields)

/-- The code of a lane (R222). -/
def laneCode : LaneId → Byte
  | .l0 => 0 | .l1 => 1 | .l2 => 2 | .l3 => 3 | .l4 => 4 | .l5 => 5 | .l6 => 6 | .l7 => 7

/-- The code of a berth (R222). -/
def berthCode : BerthId → Byte
  | .berthA => 0 | .berthB => 1

/-- The code of a role class (R222). -/
def roleClassCode : RoleClass → Byte
  | .entry => 1 | .board => 2

/-- The code of a class (R222). -/
def fareClassCode : FareClass → Byte
  | .fare => 1 | .transfer => 2 | .pass => 3

/-- The code of a confirmation (R222). -/
def confirmationCode : Confirmation → Byte
  | .confirmed => 1 | .unconfirmed => 2 | .notNeeded => 3

/-- The deny flags byte: UNCHECKED bit 0, FLAGGED bit 1 (R222). -/
def denyFlagsByte : DenyFlags → Byte
  | .clear => 0 | .unchecked => 1 | .flagged _ => 2

/-- The deny reason byte: the reason with FLAGGED, 0 otherwise (R228). -/
def denyFlagsReason : DenyFlags → Nat
  | .flagged r => r
  | _ => 0

/-- The reason codes (R225). -/
def reasonCode : Reason → Byte
  | .notServing => 1 | .laneBlocked => 2 | .laneBusy => 3 | .clockUnset => 4 | .notBoarding => 5 | .closed => 6
  | .linkLost => 7 | .unknownProduct => 8 | .tableLoop => 9 | .wrongMedium => 10 | .notValidHere => 11
  | .notYetValid => 12 | .expired => 13 | .passback => 14 | .spent => 15 | .denied => 16 | .listUnavailable => 17
  | .noRides => 18 | .lowValue => 19 | .tableFull => 20 | .logFull => 21 | .full => 22

/-- The void reason codes (R228). -/
def voidReasonCode : VoidReason → Byte
  | .noPassage => 1 | .writeFailed => 2 | .closed => 3 | .linkLost => 4 | .forced => 5 | .cleared => 6 | .restart => 7

/-- The reset cause codes (R228). -/
def resetCauseCode : ResetCause → Byte
  | .powerOn => 1 | .resetLine => 2 | .stationRestart => 3 | .keepLost => 4

/-- A calendar time in 5 bytes: day in 2, second in 3 (R222). -/
def timeBytes (t : CalTime) : List Byte := natBytes 2 t.day ++ natBytes 3 t.second

/-- An optional calendar time: 0x00 bytes when absent (R222). -/
def optTimeBytes : Option CalTime → List Byte
  | some t => timeBytes t
  | none => zeros 5

/-- A token id in 7 bytes (R222). -/
def tokenBytes (t : TokenId) : List Byte := natBytes 7 t.toNat

/-- An optional berth in one byte: 0x00 when absent (R222). -/
def optBerthByte : Option BerthId → Byte
  | some b => berthCode b
  | none => 0

/-- A presence byte of three bits (R225, R228). -/
def presence (b0 b1 b2 : Bool) : Byte :=
  BitVec.ofNat 8 (b0.toNat + 2 * b1.toNat + 4 * b2.toNat)

/-! ## The verdict (R225) -/

/-- The card content bytes 12 to 23 of a verdict (R225): twelve bytes, 0x00 when absent. -/
def contentBytes : Option CardContent → List Byte
  | some c => natBytes 1 c.balance.rides ++ natBytes 2 c.balance.storedValue ++ timeBytes c.last.time
      ++ natBytes 2 c.last.landing ++ natBytes 1 c.last.line ++ [roleClassCode c.last.roleClass]
  | none => zeros 12

/-- The remaining balance bytes 9 to 11 of a verdict (R225). -/
def balanceBytes : Option Balance → List Byte
  | some b => natBytes 1 b.rides ++ natBytes 2 b.storedValue
  | none => zeros 3

/-- The product bytes 7 to 8 of a verdict (R225). -/
def productBytes : Option Product → List Byte
  | some p => natBytes 1 p.page ++ natBytes 1 p.index
  | none => zeros 2

/-- The 24 bytes of an ADMIT verdict (R225). -/
def offerFields (o : Offer) : List Byte :=
  [1, 0, fareClassCode o.fareClass, presence true o.remaining.isSome o.content.isSome, denyFlagsByte o.flags]
    ++ natBytes 2 o.charge ++ productBytes (some o.product) ++ balanceBytes o.remaining ++ contentBytes o.content

/-- The 24 bytes of a REFUSE verdict (R225): charge 0, no class, no flags, no new content. -/
def refusedFields (r : Refused) : List Byte :=
  [2, reasonCode r.reason, 0, presence r.product.isSome r.remaining.isSome false, 0]
    ++ natBytes 2 0 ++ productBytes r.product ++ balanceBytes r.remaining ++ contentBytes none

/-- The kind of the VERDICT reply (R222). -/
def verdictKind : Byte := 0x81

/-- The VERDICT frame of an ADMIT verdict. -/
def offerFrame (o : Offer) : List Byte := frame verdictKind (offerFields o)

/-- The VERDICT frame of a REFUSE verdict. -/
def refusedFrame (r : Refused) : List Byte := frame verdictKind (refusedFields r)

/-- The VERDICT frame of NO_VERDICT: the verdict kind alone (R52, R222). -/
def noVerdictFrame : List Byte := frame verdictKind [3]

/-! ## The fare entry (R226, R227) -/

/-- The role mask byte: ENTRY bit 0, BOARD bit 1, the others 0 (R227). -/
def maskByte (m : RoleMask) : Byte := BitVec.ofNat 8 (m.entry.toNat + 2 * m.board.toNat)

/-- The kind byte of a terminal entry (R226). -/
def terminalKindCode : TerminalKind → Byte
  | .pass => 1 | .rides => 2 | .value _ => 3 | .ticket => 4

/-- The twelve bytes READ_FARE returns: unused bytes 0x00 (R226, R227). -/
def fareBytes : FareEntry → List Byte
  | .empty => zeros 12
  | .terminal kind mask window =>
    [terminalKindCode kind, maskByte mask] ++ natBytes 1 window
      ++ (match kind with | .value amount => natBytes 2 amount | _ => zeros 2) ++ zeros 7
  | .redirect bandStart bandEnd inCode outCode =>
    [5] ++ natBytes 3 bandStart ++ natBytes 3 bandEnd ++ natBytes 1 inCode ++ natBytes 1 outCode ++ zeros 3

/-! ## The trip record (R228) -/

/-- The kind byte of a record (R228). -/
def recordKind : Content → Byte
  | .board _ _ => 1 | .entry _ => 2 | .void .. => 3 | .refusal .. => 4 | .tailgate .. => 5 | .departure _ => 6
  | .clockSet .. => 7 | .listCommit .. => 8 | .restart .. => 9

/-- The presence byte of a record: first time, second time, berth (R228). -/
def recordPresence : Content → Byte
  | .board _ c => presence c.time.isSome false true
  | .entry c => presence c.time.isSome false false
  | .void t _ b _ _ _ _ _ _ => presence t.isSome false b.isSome
  | .refusal t _ _ _ _ => presence t.isSome false false
  | .tailgate t _ b => presence t.isSome false b.isSome
  | .departure c => presence c.arrival.isSome c.departure.isSome false
  | .clockSet old _ => presence old.isSome true false
  | .listCommit t _ _ => presence t.isSome false false
  | .restart t _ => presence t.isSome false false

/-- Bytes 4 to 31 of a BOARD or ENTRY record (R228). -/
def commitBytes (berth : Option BerthId) (c : CommitContent) : List Byte :=
  optTimeBytes c.time ++ [laneCode c.lane, optBerthByte berth] ++ tokenBytes c.tokenId ++ natBytes 1 c.page
    ++ natBytes 1 c.index ++ [fareClassCode c.fareClass] ++ natBytes 2 c.charge
    ++ [confirmationCode c.confirmation, denyFlagsByte c.flags] ++ natBytes 1 (denyFlagsReason c.flags) ++ zeros 6

/-- Bytes 4 to 31 of a record by its kind (R228). -/
def contentFields : Content → List Byte
  | .board b c => commitBytes (some b) c
  | .entry c => commitBytes none c
  | .void t l b token page index charge conf reason =>
    optTimeBytes t ++ [laneCode l, optBerthByte b] ++ tokenBytes token ++ natBytes 1 page ++ natBytes 1 index
      ++ [voidReasonCode reason] ++ natBytes 2 charge ++ [confirmationCode conf] ++ zeros 8
  | .refusal t l token reason denyReason =>
    optTimeBytes t ++ [laneCode l] ++ zeros 1 ++ tokenBytes token ++ zeros 2 ++ [reasonCode reason]
      ++ natBytes 1 (denyReason.getD 0) ++ zeros 10
  | .tailgate t l b => optTimeBytes t ++ [laneCode l, optBerthByte b] ++ zeros 21
  | .departure c =>
    natBytes 2 c.vesselId ++ natBytes 1 c.line ++ optTimeBytes c.arrival ++ optTimeBytes c.departure
      ++ natBytes 2 c.arrivalOnBoard ++ natBytes 2 c.boarded ++ natBytes 2 c.alighted ++ natBytes 2 c.unmatched
      ++ natBytes 2 c.tailgates ++ natBytes 2 c.onBoard ++ [if c.noHandover then 1 else 0] ++ zeros 2
  | .clockSet old new => optTimeBytes old ++ timeBytes new ++ zeros 18
  | .listCommit t generation count => optTimeBytes t ++ natBytes 4 generation ++ natBytes 4 count ++ zeros 15
  | .restart t cause => optTimeBytes t ++ [resetCauseCode cause] ++ zeros 22

/-- The 32 bytes LOG_PEEK returns of a record (R228). -/
def recordBytes (r : Record) : List Byte :=
  [recordKind r.content] ++ natBytes 2 r.seq.toNat ++ [recordPresence r.content] ++ contentFields r.content

/-! ## Flash pages (R229, R230, R183) -/

/-- Exactly `n` bytes: cut there, or filled up with 0xFF. -/
def fitTo (n : Nat) (bs : List Byte) : List Byte := (bs ++ blanks n).take n

/-- The eight bytes of a deny page slot (R229). -/
def slotBytes (e : DenyEntry) : List Byte :=
  tokenBytes e.tokenId ++ [BitVec.ofNat 8 ((match e.action with | .refuse => 0 | .admitFlag => 128) + e.reason)]

/-- The 256 bytes of a deny page as the list writer programs it (R229, R230). -/
def denyPageBytes (p : DenyPage) : Page :=
  withCheck (fitTo 248 ((p.entries.map slotBytes).flatten) ++ natBytes 1 p.entries.length
    ++ natBytes 2 (p.next.getD 0xFFFF) ++ blanks 3)

/-- The 256 bytes of a bank header (R229, R230). -/
def bankHeaderBytes (generation entryCount overflowUsed : Nat) : Page :=
  withCheck ([0xC3, 0x3C, 0xA5, 0x5A] ++ natBytes 4 generation ++ natBytes 4 entryCount ++ natBytes 2 overflowUsed
    ++ blanks 240)

/-- The 256 bytes of a fare page half of the settings image: sixteen entries, unused bytes, the check (R226). -/
def farePageBytes (entries : List FareEntry) : Page :=
  withCheck (fitTo 254 ((entries.map fareBytes).flatten))

/-- The 254 bytes of a page before its check, each moved to its place (log 12). -/
def layOut (places : Equiv.Perm (Fin 254)) (bs : List Byte) : Page := List.ofFn fun i => byteAt bs (places i)

/-- The settings image's header before its bytes are moved to their places: the marker STORED, the number of content
pages, unused bytes (R183). -/
def imageHeaderFields : List Byte := natBytes 4 Config.storedMarker.toNat ++ natBytes 1 33 ++ blanks 249

/-- The settings image's header page (R183); the places of its bytes are free (log 12). -/
def imageHeaderBytes : Page := withCheck (layOut Config.imageHeaderPlaces imageHeaderFields)

/-- The number of a lane role in the order of R39. -/
def roleNumber : Role → Byte
  | .off => 0 | .entry => 1 | .boardA => 2 | .boardB => 3 | .alightA => 4 | .alightB => 5

/-- The number of a fail policy. -/
def policyNumber : FailPolicy → Byte
  | .opened => 0 | .closed => 1

/-- The eight bytes of one lane in page 10,273: its role and five settings (R183, log 12). -/
def laneImageBytes (v : Role × LaneSettings) : List Byte :=
  [Config.imageRoleCode (roleNumber v.1)] ++ natBytes 2 v.2.verdictDeadline ++ natBytes 2 v.2.writeTimeout
    ++ natBytes 1 v.2.passageTimeout ++ natBytes 1 v.2.debounce ++ natBytes 1 v.2.homeLine

/-- The nine bytes of the landing settings in page 10,273 (R183, log 12). -/
def landingImageBytes (x : LandingSettings) : List Byte :=
  natBytes 2 x.landingId ++ natBytes 2 x.passback
    ++ [Config.imagePolicyCode (policyNumber x.failPolicy), Config.imageSwitchCode (if x.logRefusals then 1 else 0)]
    ++ natBytes 2 x.watermark ++ natBytes 1 x.closingGrace

/-- Page 10,273 before its bytes are moved to their places: the lanes L0 to L7, the landing settings, unused bytes
(R183). -/
def settingsPageFields (c : SettingsCopy) : List Byte :=
  laneImageBytes c.lanes.l0 ++ laneImageBytes c.lanes.l1 ++ laneImageBytes c.lanes.l2 ++ laneImageBytes c.lanes.l3
    ++ laneImageBytes c.lanes.l4 ++ laneImageBytes c.lanes.l5 ++ laneImageBytes c.lanes.l6
    ++ laneImageBytes c.lanes.l7 ++ landingImageBytes c.landing ++ blanks 181

/-- The settings image's page 10,273 (R183); the places of its bytes are free (log 12). -/
def settingsPageBytes (c : SettingsCopy) : Page :=
  withCheck (layOut Config.settingsPagePlaces (settingsPageFields c))

/-! ## The replies as frames (R222)

The kinds that R222 does not give, and the fields that have no layout, are free (log 35). -/

/-- The kind byte of a lane reply (R43, R222). -/
def LaneReply.kind : LaneReply → Byte
  | .tapStarted | .tapBadToken => Config.tapReplyKind
  | .verdict _ => verdictKind
  | .wroteOk | .wroteNothingPending => Config.wroteReplyKind
  | .status .. => Config.statusReplyKind
  | .badFrame => Config.laneBadFrameKind
  | .unknownMessage => Config.laneUnknownKind

/-- The frame of a lane reply (R43, R222): a VERDICT is its frame, and BAD_FRAME has no fields (R42). -/
def LaneReply.bytes : LaneReply → List Byte
  | .verdict verdictFrame => verdictFrame
  | .badFrame => frame LaneReply.badFrame.kind []
  | r => frame r.kind (Config.laneReplyFields r)

/-- The kind byte of a dock reply (R4, R5, R222). -/
def DockReply.kind : DockReply → Byte
  | .arriveAccepted .. | .arriveResumed .. | .arriveAlready .. | .arriveRefused .. => Config.arriveReplyKind
  | .rampOk _ | .rampAlready _ | .rampWrongState _ | .rampNeedArrive _ => Config.rampReplyKind
  | .count .. => Config.countReplyKind
  | .departClosing .. | .departHandover .. | .departWrongState _ | .departNeedArrive _ => Config.departReplyKind
  | .handoverOk _ | .handoverWrongState _ | .handoverNeedArrive _ => Config.handoverReplyKind
  | .refusedBadMessage _ | .refusedUnknownMessage _ => Config.dockRefusedKind

/-- The frame of a dock reply (R5, R222). -/
def DockReply.bytes (r : DockReply) : List Byte := frame r.kind (Config.dockReplyFields r)

/-- The bytes of a station reply's data that a layout gives: the fare entry (R226), the trip records one after another,
oldest first (R196, R228). -/
def StationData.laidOut : StationData → List Byte
  | .fare entry => entry
  | .records _ _ listed => listed.flatten
  | .nothing | .status _ | .stats _ _ | .cap _ | .berthState _ | .cleared _ _ | .taken _ | .dropped _ _
  | .tapTable .. => []

/-- What data out carries of a reply: its frame (R204, R222). NONE and BAD_FRAME name no command and carry no data
(R202 to R204); a restart gives nothing but idle bytes (R214). -/
def StationReply.bytes : StationReply → List Byte
  | .idle => []
  | .none => frame Config.noneReplyKind []
  | .badFrame => frame Config.badFrameReplyKind []
  | .ok command data =>
    frame Config.okReplyKind (Config.stationFieldsBefore (.ok command data) ++ data.laidOut
      ++ Config.stationFieldsAfter (.ok command data))
  | .refused command reason data =>
    frame Config.refusedReplyKind (Config.stationFieldsBefore (.refused command reason data) ++ data.laidOut
      ++ Config.stationFieldsAfter (.refused command reason data))

/-- What a transfer of `n` clocked bytes shifts out: the reply, then idle bytes of 0xFF (R202 step 1, R214). -/
def StationReply.shifted (r : StationReply) (n : Nat) : List Byte := (r.bytes ++ blanks n).take n

end Sys2Proof.Machine
end

