-- ==== Sys2Proof/Machine/Operands.lean ====
section
/-!
DEFINITION. Operands: the codes, records and pages the part reads, and the ranges an argument must lie in.
-/
namespace Sys2Proof

/-- The value of a lane. -/
def PerLane.get {α : Type} (p : PerLane α) : LaneId → α
  | .l0 => p.l0 | .l1 => p.l1 | .l2 => p.l2 | .l3 => p.l3 | .l4 => p.l4 | .l5 => p.l5 | .l6 => p.l6 | .l7 => p.l7

/-- The same with one lane's value replaced. -/
def PerLane.set {α : Type} (p : PerLane α) (l : LaneId) (x : α) : PerLane α :=
  match l with
  | .l0 => { p with l0 := x } | .l1 => { p with l1 := x } | .l2 => { p with l2 := x } | .l3 => { p with l3 := x }
  | .l4 => { p with l4 := x } | .l5 => { p with l5 := x } | .l6 => { p with l6 := x } | .l7 => { p with l7 := x }

/-- A function on every lane's value. -/
def PerLane.map {α β : Type} (f : α → β) (p : PerLane α) : PerLane β :=
  { l0 := f p.l0, l1 := f p.l1, l2 := f p.l2, l3 := f p.l3, l4 := f p.l4, l5 := f p.l5, l6 := f p.l6, l7 := f p.l7 }

/-- The sum of a count over the lanes. -/
def PerLane.sum {α : Type} (f : α → Nat) (p : PerLane α) : Nat :=
  f p.l0 + f p.l1 + f p.l2 + f p.l3 + f p.l4 + f p.l5 + f p.l6 + f p.l7

/-- The lanes in order. -/
def LaneId.list : List LaneId := [.l0, .l1, .l2, .l3, .l4, .l5, .l6, .l7]

/-- The value of a berth. -/
def PerBerth.get {α : Type} (p : PerBerth α) : BerthId → α
  | .berthA => p.a | .berthB => p.b

/-- The same with one berth's value replaced. -/
def PerBerth.set {α : Type} (p : PerBerth α) (b : BerthId) (x : α) : PerBerth α :=
  match b with
  | .berthA => { p with a := x } | .berthB => { p with b := x }

/-- The lane a code names: L0 to L7 are 0 to 7 (R205, R222). -/
def LaneId.ofCode : Nat → Option LaneId
  | 0 => some .l0 | 1 => some .l1 | 2 => some .l2 | 3 => some .l3 | 4 => some .l4 | 5 => some .l5 | 6 => some .l6
  | 7 => some .l7 | _ => none

/-- The berth a code names: A and B are 0 and 1 (R205, R222). -/
def BerthId.ofCode : Nat → Option BerthId
  | 0 => some .berthA | 1 => some .berthB | _ => none

/-- The berth a lane role boards at (R2, R39). -/
def Role.boards : Role → Option BerthId
  | .boardA => some .berthA | .boardB => some .berthB | _ => none

end Sys2Proof

namespace Sys2Proof.Machine

/-- The role class of a lane role (R39): ENTRY or BOARD, none for a role that serves no tap. -/
def roleClassOf : Role → Option RoleClass
  | .entry => some .entry
  | .boardA | .boardB => some .board
  | _ => none

/-- Whether a number lies in a range, both ends included (00_scope.md, Conventions). -/
def within (lo hi n : Nat) : Bool := decide (lo ≤ n) && decide (n ≤ hi)

/-- Whether an optional field, when present, lies in a range (R32). -/
def optWithin (lo hi : Nat) : Option Nat → Bool
  | some n => within lo hi n
  | none => true

/-- The ranges of the five lane settings (R40). -/
def laneSettingsValid (s : LaneSettings) : Bool :=
  within 50 1000 s.verdictDeadline && within 200 10000 s.writeTimeout && within 2 60 s.passageTimeout
    && within 1 255 s.debounce && within 0 15 s.homeLine

/-- The landing settings that arguments give, when every one of them lies in its range (R207). -/
def landingOf (a : LandingArgs) : Option LandingSettings :=
  match a.failPolicy, a.logRefusals with
  | some policy, some log =>
    if within 1 4095 a.landingId && within 0 600 a.passback && within 1 1023 a.watermark
        && within 5 60 a.closingGrace then
      some { landingId := a.landingId, passback := a.passback, failPolicy := policy, logRefusals := log,
             watermark := a.watermark, closingGrace := a.closingGrace }
    else none
  | _, _ => none

/-- The ranges of a staged plan's fields (R32). -/
def planValid (p : Plan) : Bool :=
  optWithin 1 65535 p.vesselId && optWithin 1 900 p.cap && optWithin 1 15 p.line && optWithin 5 60 p.grace

/-- Step 1 of R9: the fields of an ARRIVE are valid. -/
def arrivalValid (a : ArriveArgs) : Bool :=
  within 1 65535 a.vesselId && within 1 15 a.line && within 1 900 a.capacity

/-! ## The token record (R223, R224) -/

/-- The medium a byte names (R223). -/
def mediumOf (b : Byte) : Option Medium :=
  if b = 1 then some .card else if b = 2 then some .code else none

/-- The role class a byte names (R222). -/
def roleClassOfByte (b : Byte) : Option RoleClass :=
  if b = 1 then some .entry else if b = 2 then some .board else none

/-- A calendar time in 5 bytes (R222). -/
def timeAt (bs : List Byte) (i : Nat) : CalTime := { day := numAt bs i 2, second := numAt bs (i + 2) 3 }

/-- A CARD's last admission from the record's bytes 17 to 26: absent when its presence bit is clear, its second is
above 86,399 or its role class is neither ENTRY nor BOARD (R91, R224). -/
def lastAdmissionOf (bs : List Byte) : Option CardAdmission :=
  if (byteAt bs 17).getLsbD 0 then
    match roleClassOfByte (byteAt bs 26) with
    | some rc =>
      if numAt bs 20 3 ≤ 86399 then
        some { time := timeAt bs 18, landing := numAt bs 23 2 % 4096, line := numAt bs 25 1 % 16, roleClass := rc }
      else none
    | none => none
  else none

/-- The token record in the fields of a TAP frame, or none for BAD_TOKEN: not 28 bytes, token id 0, or an unknown
medium (R44, R224). Ignored bits are dropped. -/
def decodeToken (bs : List Byte) : Option TokenRecord :=
  if bs.length = 28 then
    match mediumOf (byteAt bs 7) with
    | some m =>
      if numAt bs 0 7 = 0 then none
      else some { id := BitVec.ofNat 56 (numAt bs 0 7), medium := m, productCode := numAt bs 8 1 % 64,
                  validFrom := numAt bs 9 2, validUntil := numAt bs 11 2, rides := numAt bs 13 1,
                  storedValue := numAt bs 14 2, usesAllowed := numAt bs 16 1 % 16,
                  last := match m with | .card => lastAdmissionOf bs | .code => none }
    | none => none
  else none

/-! ## The fare entry (R226, R227) -/

/-- The role mask a byte gives: bits 2 to 7 are ignored (R227). -/
def maskOf (b : Byte) : RoleMask := { entry := b.getLsbD 0, board := b.getLsbD 1 }

/-- A fare entry from its twelve bytes, or none where WRITE_FARE refuses it: a kind above 5, a REDIRECT second above
86,399 or code above 63 (R104, R227). -/
def decodeFare (bs : List Byte) : Option FareEntry :=
  let terminal (k : TerminalKind) : Option FareEntry := some (.terminal k (maskOf (byteAt bs 1)) (numAt bs 2 1))
  match numAt bs 0 1 with
  | 0 => some .empty
  | 1 => terminal .pass
  | 2 => terminal .rides
  | 3 => terminal (.value (numAt bs 3 2))
  | 4 => terminal .ticket
  | 5 =>
    if within 0 86399 (numAt bs 1 3) && within 0 86399 (numAt bs 4 3) && within 0 63 (numAt bs 7 1)
        && within 0 63 (numAt bs 8 1) then
      some (.redirect (numAt bs 1 3) (numAt bs 4 3) (numAt bs 7 1) (numAt bs 8 1))
    else none
  | _ => none

/-! ## Flash pages (R147, R149, R173, R229, R230) -/

/-- The result of a page read (R173). -/
inductive PageResult where
  | good (page : Page)
  | erased
  | unreadable
deriving DecidableEq, Repr

/-- A page whose 256 bytes are all 0xFF (R147). -/
def pageErased (p : Page) : Bool := decide (p.length = 256) && p.all (fun b => decide (b = 0xFF))

/-- A page of 256 bytes whose check over bytes 0 to 253 stands in bytes 254 and 255 (R173). -/
def pageChecks (p : Page) : Bool :=
  decide (p.length = 256) && decide ((crc16 (p.take 254)).toNat = numAt p 254 2)

/-- One read judged: erased, good, or to be read again (R173). -/
def judgeOneRead (p : Page) : Option PageResult :=
  if pageErased p then some .erased else if pageChecks p then some (.good p) else none

/-- A page read judged with its re-reads: the result and the number of re-reads made (R173). -/
def judgeReads (r : FlashReads) : PageResult × Nat :=
  match judgeOneRead r.first with
  | some res => (res, 0)
  | none =>
    match judgeOneRead r.second with
    | some res => (res, 1)
    | none =>
      match judgeOneRead r.third with
      | some res => (res, 2)
      | none => (.unreadable, 2)

/-- Slot `s` of a deny page (R229). -/
def slotAt (p : Page) (s : Nat) : DenyEntry :=
  { tokenId := BitVec.ofNat 56 (numAt p (8 * s) 7)
    action := if (byteAt p (8 * s + 7)).getLsbD 7 then .admitFlag else .refuse
    reason := numAt p (8 * s + 7) 1 % 128 }

/-- A good page read as a deny page; none when it is malformed (R147, R230). Slots past the entry count are not read. -/
def decodeDenyPage (p : Page) : Option DenyPage :=
  let count := numAt p 248 1
  let next := numAt p 249 2
  if count ≤ 31 then
    if next = 0xFFFF then some { entries := (List.range count).map (slotAt p), next := none }
    else if next ≤ 1022 then some { entries := (List.range count).map (slotAt p), next := some next }
    else none
  else none

/-- The generation of a bank header page, none when the header is invalid (R149, R230). -/
def headerGeneration : PageResult → Option Nat
  | .good p =>
    if p.take 4 = [0xC3, 0x3C, 0xA5, 0x5A] ∧ numAt p 4 4 ≠ 0 ∧ numAt p 12 2 ≤ 1023 then some (numAt p 4 4) else none
  | .erased => none
  | .unreadable => none

/-! ## The settings image (R183) -/

/-- Every value of a list, when all are present. -/
def allSome {α : Type} : List (Option α) → Option (List α)
  | [] => some []
  | none :: _ => none
  | some x :: rest => (allSome rest).map (x :: ·)

/-- The sixteen entries of a fare page half, each as WRITE_FARE would judge it (R183, R226). -/
def fareHalf (p : Page) : Option (List FareEntry) :=
  allSome ((List.range 16).map fun i => decodeFare ((p.drop (12 * i)).take 12))

/-- The fare table of the 32 fare pages of an image, in order (R183). -/
def imageFare (pages : List Page) : Option (List FareEntry) := (allSome (pages.map fareHalf)).map List.flatten

/-- The bytes of a page before its check, moved back from their places (log 12). -/
def readPlaces (places : Equiv.Perm (Fin 254)) (p : Page) : List Byte := List.ofFn fun i => byteAt p (places.symm i)

/-- The role a number names in the order of R39. -/
def roleOfNumber (b : Byte) : Option Role :=
  match b.toNat with
  | 0 => some .off | 1 => some .entry | 2 => some .boardA | 3 => some .boardB | 4 => some .alightA
  | 5 => some .alightB | _ => none

/-- The fail policy a number names. -/
def policyOfNumber (b : Byte) : Option FailPolicy :=
  match b.toNat with
  | 0 => some .opened | 1 => some .closed | _ => none

/-- The setting "log refusals" a number names. -/
def switchOfNumber (b : Byte) : Option Bool :=
  match b.toNat with
  | 0 => some false | 1 => some true | _ => none

/-- Lane `k` of flash page 10,273, when its role is one of the six and its settings lie within R40 (R183). -/
def imageLane (bs : List Byte) (k : Nat) : Option (Role × LaneSettings) :=
  let settings : LaneSettings :=
    { verdictDeadline := numAt bs (8 * k + 1) 2, writeTimeout := numAt bs (8 * k + 3) 2,
      passageTimeout := numAt bs (8 * k + 5) 1, debounce := numAt bs (8 * k + 6) 1, homeLine := numAt bs (8 * k + 7) 1 }
  match roleOfNumber (Config.imageRoleCode.symm (byteAt bs (8 * k))) with
  | some r => if laneSettingsValid settings then some (r, settings) else none
  | none => none

/-- The landing settings of flash page 10,273, when each lies in its range (R183, R207). -/
def imageLanding (bs : List Byte) : Option LandingSettings :=
  landingOf { landingId := numAt bs 64 2, passback := numAt bs 66 2,
              failPolicy := policyOfNumber (Config.imagePolicyCode.symm (byteAt bs 68)),
              logRefusals := switchOfNumber (Config.imageSwitchCode.symm (byteAt bs 69)),
              watermark := numAt bs 70 2, closingGrace := numAt bs 72 1 }

/-- Every lane's value, when all are present. -/
def lanesSome {α : Type} (p : PerLane (Option α)) : Option (PerLane α) :=
  match p.l0, p.l1, p.l2, p.l3, p.l4, p.l5, p.l6, p.l7 with
  | some a0, some a1, some a2, some a3, some a4, some a5, some a6, some a7 =>
    some { l0 := a0, l1 := a1, l2 := a2, l3 := a3, l4 := a4, l5 := a5, l6 := a6, l7 := a7 }
  | _, _, _, _, _, _, _, _ => none

/-- The lanes of flash page 10,273, when all eight are valid (R183). -/
def imageLanes (bs : List Byte) : Option (PerLane (Role × LaneSettings)) :=
  lanesSome { l0 := imageLane bs 0, l1 := imageLane bs 1, l2 := imageLane bs 2, l3 := imageLane bs 3,
              l4 := imageLane bs 4, l5 := imageLane bs 5, l6 := imageLane bs 6, l7 := imageLane bs 7 }

/-- The settings of an image's 33 good content pages, or none when a value lies outside its range (R183). -/
def imageSettings (pages : List Page) : Option SettingsCopy :=
  let bs := readPlaces Config.settingsPagePlaces (pages.getD 32 [])
  match imageFare (pages.take 32), imageLanes bs, imageLanding bs with
  | some fare, some lanes, some landing => some { fare := fare, lanes := lanes, landing := landing }
  | _, _, _ => none

/-- Whether the bytes of an image header give the marker STORED and 33 content pages (R183). -/
def imageHeaderGood (bs : List Byte) : Bool :=
  decide (numAt bs 0 4 = Config.storedMarker.toNat) && decide (numAt bs 4 1 = 33)

/-- A valid image header: it reads good, with marker STORED and 33 content pages (R183). -/
def imageHeaderValid : PageResult → Bool
  | .good p => imageHeaderGood (readPlaces Config.imageHeaderPlaces p)
  | .erased => false
  | .unreadable => false

/-! ## Frames (R4, R42, R203, R222) -/

/-- What a received frame is judged to be. `nothing`: no byte was clocked. -/
inductive FrameJudgement where
  | nothing
  | empty
  | bad
  | good (kind : Byte) (fields : List Byte)
deriving DecidableEq, Repr

/-- A lane or dock frame received whole (R42, R4): its length field must equal the bytes that follow it and leave room
for a kind and a check, and its check must pass. -/
def judgeLinkFrame (bs : List Byte) : FrameJudgement :=
  let n := numAt bs 0 2
  if bs.length < 2 ∨ n < 3 ∨ bs.length ≠ n + 2 then .bad
  else if (crc16 (bs.take n)).toNat = numAt bs n 2 then .good (byteAt bs 2) ((bs.take n).drop 3)
  else .bad

/-- A station frame received when select is released (R203): no byte clocked is no transfer's frame (R202), a length of
0 is empty, and bytes after the frame's last are ignored (R202). DESIGN CHOICE (log 33): a transfer of one byte, whose
length field is not whole, is judged bad; R203 judges by the length a frame gives. -/
def judgeStationFrame (bs : List Byte) : FrameJudgement :=
  let n := numAt bs 0 2
  if bs.length = 0 then .nothing
  else if bs.length < 2 then .bad
  else if n = 0 then .empty
  else if n < 3 ∨ bs.length < n + 2 then .bad
  else if (crc16 (bs.take n)).toNat = numAt bs n 2 then .good (byteAt bs 2) ((bs.take n).drop 3)
  else .bad

end Sys2Proof.Machine
end

