-- ==== Sys2Proof/Decode.lean ====
section
/-!
DEFINITION. Decoding. No row of spec/opcode_table.json gives bits, so no word of the table spells a command. A frame
received on a link spells one where the spec gives enough to tell: a bad frame, the empty frame, and TAP, the one kind
R222 gives.
-/
namespace Sys2Proof

/-- The command that a word spells by the table's bits: none, since no row gives bits. -/
def decodeTableWord (_nbits _w : Nat) : Option Instr := none

/-- The kind of the TAP message (R222). -/
def tapKind : Byte := 0x01

/-- The command a lane's frame is, where R222 gives its kind: a bad frame, or a TAP with its fields. The kinds of the
other messages are not given (log 24). -/
def laneCommand (l : LaneId) (frame : List Byte) : Option Instr :=
  match Machine.judgeLinkFrame frame with
  | .bad => some (.laneBadFrame l)
  | .good kind fields => if kind = tapKind then some (.tap l fields) else none
  | .empty => none
  | .nothing => none

/-- The command a dock frame is, where the spec tells: a bad frame (R4, log 24). -/
def dockCommand (b : BerthId) (frame : List Byte) : Option Instr :=
  match Machine.judgeLinkFrame frame with
  | .bad => some (.dockBadFrame b)
  | .good _ _ => none
  | .empty => none
  | .nothing => none

/-- The command a station frame is, where the spec tells: the empty frame or a bad frame (R203, log 24). A transfer with
no byte clocked is no command: it changes nothing (R202). -/
def stationCommand (frame : List Byte) : Option Instr :=
  match Machine.judgeStationFrame frame with
  | .bad => some .stationBadFrame
  | .empty => some .emptyFrame
  | .nothing => none
  | .good _ _ => none

end Sys2Proof
end

