-- ==== Sys2Proof/Machine/Flags.lean ====
section
/-!
DEFINITION. Flags and counts: saturation, the OVER flag, the attention causes, the WATERMARK level and the attention
output, and when an event of a berth latches BERTH_EVENT.
-/
namespace Sys2Proof.Machine

/-- One more, saturating at `top` (00_scope.md, Conventions). -/
def bumpTo (top n : Nat) : Nat := if n < top then n + 1 else top

/-- One more, saturating at 65,535 (R3, R67, R212). -/
def bump (n : Nat) : Nat := bumpTo 65535 n

/-- `k` more, saturating at 65,535. -/
def bumpBy : Nat → Nat → Nat
  | 0, n => n
  | k + 1, n => bumpBy k (bump n)

/-- The OVER flag judged (R31): set when more are on board than the effective capacity, clear otherwise. -/
def Call.judgeOver (c : Call) : Call := { c with isOver := decide (c.effectiveCap < c.onBoard) }

/-- The call state of a berth (R1). -/
def callState : Option Call → CallState
  | none => .vacant
  | some c =>
    if c.suspended then .suspended
    else match c.stage with
      | .alighting => .alighting | .boarding => .boarding | .closing => .closing | .handover => .handover

/-- The prior state, in SUSPENDED only (R1). -/
def priorState : Option Call → Option Stage
  | none => none
  | some c => if c.suspended then some c.stage else none

/-- The OVER flag of a berth: clear in VACANT (R1). -/
def overFlag : Option Call → Bool
  | none => false
  | some c => c.isOver

/-- Whether a change of the berth record latches BERTH_EVENT (R37): the state changed, the prior state changed while
SUSPENDED, or the OVER flag was set. -/
def berthEvent (before after : Option Call) : Bool :=
  decide (callState before ≠ callState after) || decide (priorState before ≠ priorState after)
    || (!overFlag before && overFlag after)

/-- Whether any latched cause is present (R208). -/
def Causes.any (c : Causes) : Bool := c.berthEvent || c.laneFault || c.listDone || c.settingsDone || c.restarted

/-- The WATERMARK level: the record count is at or above the watermark (R199). -/
def State.watermark (s : State) : Bool := decide (s.station.landing.watermark ≤ s.log.records.length)

/-- Whether the part is held in reset (R216). -/
def Run.isHeld : Run → Bool
  | .held _ => true
  | _ => false

/-- The attention output, asserted while any cause is present, released while the part is held in reset (R208, R216). -/
def State.attention (s : State) : Bool := !s.keep.run.isHeld && (s.station.causes.any || s.watermark)

end Sys2Proof.Machine
end

