-- ==== Sys2Proof/Machine/Calls.lean ====
section
/-!
DEFINITION. The berth controller's own operations on the record of an open call (R2 to R36).
-/
namespace Sys2Proof.Machine

/-- The silence time: 3 s (R6). -/
def silenceMs : Nat := 3000

/-- A good frame restarts the silence timer, except in SUSPENDED (R6). -/
def Call.heard (c : Call) (now : Nat) : Call :=
  if c.suspended then c else { c with silenceDeadline := some (now + silenceMs) }

/-- The closing grace in milliseconds: the override, otherwise the landing's default (R16). -/
def Call.graceMs (c : Call) (default : Nat) : Nat := c.grace.getD default * 1000

/-- A release taken: one place given back (R26). -/
def Call.takeRelease (c : Call) : Call := { c with reserved := c.reserved - 1 }

/-- A commit taken: the place becomes a boarding and OVER is judged (R28). -/
def Call.takeCommit (c : Call) : Call :=
  Call.judgeOver { c with reserved := c.reserved - 1, onBoard := bump c.onBoard, boarded := bump c.boarded }

/-- One message of a lane taken (R26, R28). -/
def Call.takeHolding (c : Call) : Holding → Call
  | .commit => c.takeCommit
  | .release => c.takeRelease

/-- The move to HANDOVER of a CLOSING berth whose reserved count is 0 (R17); not in SUSPENDED (R20). -/
def Call.closeIfEmpty (c : Call) : Call :=
  if c.stage = .closing ∧ c.suspended = false ∧ c.reserved = 0 then
    { c with stage := .handover, closingDeadline := none }
  else c

/-- A message sent by a lane joins those in flight (R7). -/
def Call.send (c : Call) (l : LaneId) (m : Holding) : Call := { c with inFlight := c.inFlight ++ [(l, m)] }

/-- Every message in flight that passes `p` is taken, oldest first; the others stay (R7). -/
def Call.takeWhere (p : LaneId → Bool) (c : Call) : Call :=
  let taken := (c.inFlight.filter fun m => p m.1).foldl (fun d m => d.takeHolding m.2) c
  { taken with inFlight := c.inFlight.filter fun m => !p m.1 }

/-- The admission state (R24): none when BOARDING admits, otherwise the refusal. -/
def admissionRefusal : Option Call → Option Reason
  | none => some .notBoarding
  | some c =>
    if c.suspended then some .linkLost
    else match c.stage with
      | .alighting => some .notBoarding
      | .boarding => none
      | .closing | .handover => some .closed

/-- Whether a call has room for one more: on-board plus reserved below the effective capacity (R25). -/
def Call.hasRoom (c : Call) : Bool := decide (c.onBoard + c.reserved < c.effectiveCap)

/-- A tailgate at an open call (R29). -/
def Call.tailgate (c : Call) : Call :=
  Call.judgeOver { c with onBoard := bump c.onBoard, tailgates := bump c.tailgates }

/-- An alight passage at an open call (R30). -/
def Call.alight (c : Call) : Call :=
  if 0 < c.onBoard then Call.judgeOver { c with onBoard := c.onBoard - 1, alighted := bump c.alighted }
  else Call.judgeOver { c with unmatched := bump c.unmatched }

/-- The closing of a call in ALIGHTING or BOARDING (R16): straight to HANDOVER when nothing is reserved, otherwise to
CLOSING with a closing deadline. -/
def Call.close (c : Call) (now default : Nat) : Call :=
  if c.reserved = 0 then { c with stage := .handover }
  else { c with stage := .closing, closingDeadline := some (now + c.graceMs default) }

/-- The call an accepted ARRIVE opens, before the plan (R9). -/
def Call.opened (a : ArriveArgs) (arrival : Option CalTime) (now : Nat) : Call :=
  { stage := .alighting, suspended := false, vesselId := a.vesselId, line := a.line, declaredCap := a.capacity,
    effectiveCap := a.capacity, arrivalOnBoard := a.onBoard.toNat, onBoard := a.onBoard.toNat, reserved := 0,
    boarded := 0, alighted := 0, unmatched := 0, tailgates := 0, arrival := arrival, isOver := false, grace := none,
    closingDeadline := none, silenceDeadline := some (now + silenceMs), inFlight := [] }

/-- A staged plan applied to a call (R10). -/
def Call.applyPlan (c : Call) (p : Plan) : Call :=
  { c with effectiveCap := min c.declaredCap (p.cap.getD c.declaredCap), line := p.line.getD c.line,
           grace := p.grace }

/-- Whether a staged plan matches an arriving vessel (R10). -/
def planMatches (p : Plan) (vesselId : Nat) : Bool :=
  match p.vesselId with
  | some v => decide (v = vesselId)
  | none => true

/-- SET_CAP on a call (R33). -/
def Call.setCap (c : Call) (cap : Nat) : Call := Call.judgeOver { c with effectiveCap := min cap c.declaredCap }

/-- The suspension of a call (R19): every other field is kept. -/
def Call.suspend (c : Call) : Call := { c with suspended := true, silenceDeadline := none }

/-- The resume of a suspended call (R22). -/
def Call.resume (c : Call) (now : Nat) : Call :=
  { c with suspended := false, silenceDeadline := some (now + silenceMs) }

/-- The move to HANDOVER at the closing deadline: the state, or in SUSPENDED the prior state (R18, R20). -/
def Call.graceExpired (c : Call) : Call := { c with stage := .handover, closingDeadline := none }

/-- A call at a warm restart (R38): suspended, and with prior state CLOSING a closing deadline one full grace ahead. -/
def Call.restarted (c : Call) (now default : Nat) : Call :=
  { c.suspend with closingDeadline := if c.stage = .closing then some (now + c.graceMs default) else none }

/-- The DEPARTURE record of a call (R8). -/
def Call.departure (c : Call) (now : Option CalTime) (noHandover : Bool) : Content :=
  .departure { vesselId := c.vesselId, line := c.line, arrival := c.arrival, departure := now,
               arrivalOnBoard := c.arrivalOnBoard, boarded := c.boarded, alighted := c.alighted,
               unmatched := c.unmatched, tailgates := c.tailgates, onBoard := c.onBoard, noHandover := noHandover }

end Sys2Proof.Machine
end

