-- ==== Sys2Proof/Machine/Taps.lean ====
section
/-!
DEFINITION. The recent-tap table's own operations (R130 to R144). The table is a list in last-touch order, oldest first.
-/
namespace Sys2Proof.Machine

/-- Seconds from day 0, second 0. -/
def CalTime.total (t : CalTime) : Nat := t.day * 86400 + t.second

/-- The elapsed time in seconds from a recorded time to the present one, 0 when the present equals or precedes it
(R90). -/
def elapsed (recorded present : CalTime) : Nat := present.total - recorded.total

/-- The table's entry of a token (R131: at most one). -/
def tapFind (t : List TapEntry) (id : TokenId) : Option TapEntry := t.find? fun e => decide (e.tokenId = id)

/-- The table without a token's entry; the entries on either side close up (R140). -/
def tapRemove (t : List TapEntry) (id : TokenId) : List TapEntry := t.filter fun e => decide (e.tokenId ≠ id)

/-- An entry in its new form at the youngest end (R131). -/
def tapTouch (t : List TapEntry) (e : TapEntry) : List TapEntry := tapRemove t e.tokenId ++ [e]

/-- Whether an entry is evictable: held 0 and not pinned (R135). -/
def TapEntry.evictable (e : TapEntry) : Bool := !e.held && !e.pinned

/-- The recent-admission test of R132. -/
def recentAdmission (e : TapEntry) (rc : RoleClass) (now : CalTime) (passback : Nat) : Bool :=
  match e.last with
  | some a => decide (a.roleClass = rc) && decide (elapsed a.time now < passback)
  | none => false

/-- The seventh check's answer: none for PASS (R132). -/
def tapJudge (t : List TapEntry) (token : TokenRecord) (rc : RoleClass) (now : CalTime) (passback : Nat) :
    Option Reason :=
  match tapFind t token.id with
  | some e =>
    if e.held then some .passback
    else if recentAdmission e rc now passback then some .passback
    else if token.medium = .code ∧ token.usesAllowed ≤ e.uses then some .spent
    else none
  | none => if token.medium = .code ∧ token.usesAllowed = 0 then some .spent else none

/-- Whether an entry was committed at or after a TAP's time (R134, second row). -/
def committedSince (e : TapEntry) (tapBase : Nat) : Bool :=
  match e.commitTime with
  | some c => decide (tapBase ≤ c)
  | none => false

/-- The pin day a claim gives: the valid-until day of a CODE, none for a CARD (R134, R135). -/
def claimPinDay (token : TokenRecord) : Option Nat :=
  match token.medium with
  | .code => some token.validUntil
  | .card => none

/-- The entry a claim creates (R135). -/
def newTapEntry (token : TokenRecord) : TapEntry :=
  { tokenId := token.id, medium := token.medium, held := true, uses := 0, last := none, commitTime := none,
    pinDay := claimPinDay token, pinned := false }

/-- The held-use claim (R134, R135): the table with the use held, or the refusal PASSBACK or TABLE_FULL. -/
def tapClaim (t : List TapEntry) (token : TokenRecord) (tapBase : Nat) : Except Reason (List TapEntry) :=
  match tapFind t token.id with
  | some e =>
    if e.held then .error .passback
    else if committedSince e tapBase then .error .passback
    else .ok (tapTouch t { e with held := true, medium := token.medium, pinDay := claimPinDay token })
  | none =>
    if t.length < 512 then .ok (t ++ [newTapEntry token])
    else if t.any TapEntry.evictable then .ok (t.eraseP TapEntry.evictable ++ [newTapEntry token])
    else .error .tableFull

/-- The release of a held use (R140). -/
def tapRelease (t : List TapEntry) (id : TokenId) : List TapEntry :=
  match tapFind t id with
  | some e => if e.uses = 0 then tapRemove t id else tapTouch t { e with held := false }
  | none => t

/-- The pin judged at a commit (R138). DESIGN CHOICE (log 30): a CARD commit leaves the field as it stands. The table keys
by token id alone, so a pinned CODE entry that a CARD's claim takes over (R134) stays pinned through its commits, with no
pin day to end it; R138 says only that a CARD is not pinned. -/
def judgePin (e : TapEntry) (day : Nat) : Bool :=
  match e.medium, e.pinDay with
  | .code, some pin => decide (day ≤ pin)
  | .code, none => false
  | .card, _ => e.pinned

/-- The commit of a use (R137). -/
def tapCommit (t : List TapEntry) (id : TokenId) (a : TableAdmission) (now : Nat) : List TapEntry :=
  match tapFind t id with
  | some e =>
    tapTouch t { e with held := false, uses := bumpTo 255 e.uses, last := some a, commitTime := some now,
                        pinned := judgePin e a.time.day }
  | none => t

/-- Whether an entry's pin day is before a day (R139). -/
def TapEntry.pinBefore (e : TapEntry) (day : Nat) : Bool :=
  match e.pinDay with
  | some pin => decide (pin < day)
  | none => false

/-- The unpinning at a change of day (R139): order and every other field stand. -/
def tapUnpin (t : List TapEntry) (day : Nat) : List TapEntry :=
  t.map fun e => if e.pinned && e.pinBefore day then { e with pinned := false } else e

/-- The table's own part of a warm restart (R144). -/
def tapRestart (t : List TapEntry) : List TapEntry :=
  (t.filter fun e => decide (e.uses ≠ 0)).map fun e => { e with held := false }

/-- The number of entries younger than a token's (R142). -/
def ageRank (t : List TapEntry) (id : TokenId) : Nat :=
  t.length - 1 - t.findIdx fun e => decide (e.tokenId = id)

/-- What RTT_QUERY returns (R142). -/
def tapReport (t : List TapEntry) (id : TokenId) : StationData :=
  .tapTable t.length (t.countP (·.held)) (t.countP (·.pinned)) (t.countP TapEntry.evictable)
    ((tapFind t id).map fun e =>
      { medium := e.medium, held := e.held, uses := e.uses, last := e.last, pinDay := e.pinDay, pinned := e.pinned,
        ageRank := ageRank t id })

end Sys2Proof.Machine
end

