-- ==== Sys2Proof/Machine/Fares.lean ====
section
/-!
DEFINITION. Product resolution, the transfer test, the charge and the new card content (R92 to R103).
-/
namespace Sys2Proof.Machine

/-- The entry at a page and index of the fare table: 16 pages of 32 (R94). -/
def fareAt (t : List FareEntry) (page index : Nat) : FareEntry := t.getD (32 * page + index) .empty

/-- One entry of the fare table replaced (R104). -/
def fareSet (t : List FareEntry) (page index : Nat) (e : FareEntry) : List FareEntry := t.set (32 * page + index) e

/-- The page and index a product code selects with a current line; none when its line flag is set and the line is 0
(R93). -/
def selectEntry (line code : Nat) : Option (Nat × Nat) :=
  if code < 32 then some (0, code) else if line = 0 then none else some (line, code - 32)

/-- Whether a second lies in a REDIRECT's band (R95). -/
def inBand (bandStart bandEnd second : Nat) : Bool :=
  if bandStart ≤ bandEnd then decide (bandStart ≤ second) && decide (second ≤ bandEnd)
  else decide (bandStart ≤ second) || decide (second ≤ bandEnd)

/-- Resolution from a code with `reads` entries still to be read (R96): the terminal entry with its place. -/
def resolveFrom (t : List FareEntry) (line second : Nat) : Nat → Nat →
    Except Reason (Nat × Nat × TerminalKind × RoleMask × Nat)
  | 0, _ => .error .tableLoop
  | reads + 1, code =>
    match selectEntry line code with
    | none => .error .unknownProduct
    | some (page, index) =>
      match fareAt t page index with
      | .empty => .error .unknownProduct
      | .terminal kind mask window => .ok (page, index, kind, mask, window)
      | .redirect bandStart bandEnd inCode outCode =>
        resolveFrom t line second reads (if inBand bandStart bandEnd second then inCode else outCode)

/-- Whether a terminal kind takes a medium (R94, R97). -/
def kindTakes : TerminalKind → Medium → Bool
  | .pass, _ => true
  | .rides, m => decide (m = .card)
  | .value _, m => decide (m = .card)
  | .ticket, m => decide (m = .code)

/-- Whether a role mask holds a role class (R97). -/
def RoleMask.has (m : RoleMask) : RoleClass → Bool
  | .entry => m.entry
  | .board => m.board

/-- Check 5: resolution of at most 5 entries, then the medium and the role class (R96, R97). -/
def resolveProduct (t : List FareEntry) (token : TokenRecord) (rc : RoleClass) (line second : Nat) :
    Except Reason Product :=
  match resolveFrom t line second 5 token.productCode with
  | .error r => .error r
  | .ok (page, index, kind, mask, window) =>
    if !kindTakes kind token.medium then .error .wrongMedium
    else if !mask.has rc then .error .notValidHere
    else .ok { page := page, index := index, kind := kind, window := window }

/-- Check 6: the validity days (R92). -/
def judgeDays (token : TokenRecord) (day : Nat) : Option Reason :=
  if day < token.validFrom then some .notYetValid
  else if token.validUntil < day then some .expired
  else none

/-- Whether an earlier line and the current line make a transfer: both 1 to 15 and different (R99, R100). -/
def linesDiffer (before current : Nat) : Bool :=
  within 1 15 before && within 1 15 current && decide (before ≠ current)

/-- The transfer test of a last admission's line and time (R99, R100). -/
def transferFrom (e : Evaluation) (line : Nat) (time : CalTime) : Bool :=
  decide (0 < e.product.window) && linesDiffer line e.line && decide (elapsed time e.time < e.product.window * 60)

/-- The transfer test: a CARD's from its record (R99), a CODE's from its table entry as it stands (R100). -/
def isTransfer (e : Evaluation) (t : List TapEntry) : Bool :=
  match e.product.kind, e.token.medium with
  | .rides, .card | .value _, .card =>
    match e.token.last with
    | some a => transferFrom e a.line a.time
    | none => false
  | .ticket, .code =>
    match (tapFind t e.token.id).bind (·.last) with
    | some a => transferFrom e a.line a.time
    | none => false
  | _, _ => false

/-- Check 9: the charge and the class, or NO_RIDES or LOW_VALUE (R101). -/
def chargeOf (e : Evaluation) (t : List TapEntry) : Except Reason (Nat × FareClass) :=
  match e.product.kind with
  | .pass => .ok (0, .pass)
  | .ticket => .ok (0, if isTransfer e t then .transfer else .fare)
  | .rides =>
    if isTransfer e t then .ok (0, .transfer)
    else if 1 ≤ e.token.rides then .ok (1, .fare)
    else .error .noRides
  | .value amount =>
    if isTransfer e t then .ok (0, .transfer)
    else if amount ≤ e.token.storedValue then .ok (amount, .fare)
    else .error .lowValue

/-- The balance a token record shows: a CARD's, none for a CODE (R102). -/
def recordBalance (token : TokenRecord) : Option Balance :=
  match token.medium with
  | .card => some { rides := token.rides, storedValue := token.storedValue }
  | .code => none

/-- The remaining balance of an admission (R102). -/
def remainingBalance (token : TokenRecord) (kind : TerminalKind) (charge : Nat) (cls : FareClass) : Option Balance :=
  match token.medium with
  | .code => none
  | .card =>
    match kind, cls with
    | .rides, .fare => some { rides := token.rides - charge, storedValue := token.storedValue }
    | .value _, .fare => some { rides := token.rides, storedValue := token.storedValue - charge }
    | _, _ => some { rides := token.rides, storedValue := token.storedValue }

/-- The new card content of an admission (R103); a CODE carries none. -/
def newContent (e : Evaluation) (landingId : Nat) (remaining : Option Balance) : Option CardContent :=
  remaining.map fun b =>
    { balance := b, last := { time := e.time, landing := landingId, line := e.line, roleClass := e.roleClass } }

end Sys2Proof.Machine
end

