-- ==== Sys2Proof/Machine/Deny.lean ====
section
/-!
DEFINITION. The deny list unit's own operations: buckets, banks, filters, lookups, the list writer, the rebuild scan
(R145 to R170).
-/
namespace Sys2Proof.Machine

/-- The bucket index of a token id: the exclusive-or of its five slices (R146). -/
def bucketOf (t : TokenId) : Nat :=
  (t.extractLsb' 0 12 ^^^ t.extractLsb' 12 12 ^^^ t.extractLsb' 24 12 ^^^ t.extractLsb' 36 12
    ^^^ (t.extractLsb' 48 8).setWidth 12).toNat

/-- The other bank. -/
def Bank.other : Bank → Bank
  | .bankA => .bankB | .bankB => .bankA

/-- The flash page of a bank page (R145). -/
def bankFlashPage : Bank → Nat → Nat
  | .bankA, p => p
  | .bankB, p => 5120 + p

/-- The flash sector of a bank sector (R145). -/
def bankFlashSector : Bank → Nat → Nat
  | .bankA, n => n
  | .bankB, n => 320 + n

/-- The bank page of an overflow index (R145). -/
def overflowPage (k : Nat) : Nat := 4096 + k

/-- The bank page of the bank header (R145). -/
def headerPage : Nat := 5119

/-- The standby bank: the bank the selector does not name (R150). -/
def DenyUnit.standbyBank (d : DenyUnit) : Bank := d.selector.other

/-- A filter with a bucket's bit set. -/
def filterSet (f : BitVec 4096) (bucket : Nat) : BitVec 4096 := f ||| BitVec.twoPow 4096 bucket

/-- The answers of the filter test (R151). -/
inductive FilterAnswer where
  | noList | bitClear | bitSet
deriving DecidableEq, Repr

/-- The filter test (R151). -/
def DenyUnit.filterTest (d : DenyUnit) (t : TokenId) : FilterAnswer :=
  if d.noList then .noList else if d.activeFilter.getLsbD (bucketOf t) then .bitSet else .bitClear

/-! ## Lookups -/

/-- The outcome of a lookup (R153). -/
inductive LookupOutcome where
  | notListed
  | listed (action : Action) (reason : Nat)
  | unreadable
deriving DecidableEq, Repr

/-- What a page read does to its lookup: it ends it, or names its next page (R153). -/
inductive LookupStep where
  | ends (o : LookupOutcome)
  | continues (q : Lookup)
deriving DecidableEq, Repr

/-- The lookup that the eighth check queues (R152): its primary page is its bucket's. -/
def newLookup (l : LaneId) (t : TokenId) : Lookup :=
  { lane := l, tokenId := t, bucket := bucketOf t, captured := none, nextPage := bucketOf t, position := 1,
    reading := false }

/-- A page read judged by its lookup (R153). -/
def Lookup.judge (q : Lookup) : PageResult → LookupStep
  | .unreadable => .ends .unreadable
  | .erased => .ends (if q.position = 1 then .notListed else .unreadable)
  | .good page =>
    match decodeDenyPage page with
    | none => .ends .unreadable
    | some p =>
      match p.entries.find? fun e => decide (e.tokenId = q.tokenId) with
      | some e => .ends (.listed e.action e.reason)
      | none =>
        match p.next with
        | none => .ends .notListed
        | some k =>
          if q.position = 3 then .ends .unreadable
          else .continues { q with nextPage := overflowPage k, position := q.position + 1, reading := false }

/-- Whether a lookup in the queue holds the standby bank (R155). -/
def DenyUnit.standbyHeld (d : DenyUnit) : Bool := d.queue.any fun q => decide (q.captured = some d.standbyBank)

/-- The queue without a lane's lookup (R154). -/
def DenyUnit.withoutLookup (d : DenyUnit) (l : LaneId) : DenyUnit :=
  { d with queue := d.queue.filter fun q => decide (q.lane ≠ l) }

/-- Whether the head lookup wants a page read (R176). -/
def DenyUnit.wantsRead (d : DenyUnit) : Bool :=
  match d.queue with
  | q :: _ => !q.reading
  | [] => false

/-- The head lookup's read granted: it captures the selector's bank at its first (R152, R153, R155). -/
def DenyUnit.startRead (d : DenyUnit) : DenyUnit :=
  match d.queue with
  | q :: rest => { d with queue := { q with captured := some (q.captured.getD d.selector), reading := true } :: rest }
  | [] => d

/-! ## The list writer -/

/-- What the writer does with one entry as the buffer stands (R160): it is refused, it joins the buffer, or it needs a
flush, closing or linked. -/
inductive AddJudgement where
  | refused (r : StationReason)
  | joins
  | closingFlush
  | linkedFlush
deriving DecidableEq, Repr

/-- R160's judgement of one entry against the buffer. -/
def DenyUnit.judgeAdd (d : DenyUnit) (e : DenyEntry) : AddJudgement :=
  match d.buffer with
  | none => .joins
  | some buf =>
    if bucketOf e.tokenId < buf.bucket then .refused .order
    else if bucketOf e.tokenId = buf.bucket then
      if buf.entries.any fun x => decide (x.tokenId = e.tokenId) then .refused .duplicate
      else if buf.entries.length < 31 then .joins
      else if buf.position = 3 then .refused .chainFull
      else if d.overflowUsed = 1023 then .refused .overflowFull
      else .linkedFlush
    else .closingFlush

/-- An entry added to a buffer, with its bucket's bit in the standby filter and the count of entries taken (R160). -/
def DenyUnit.takeInto (d : DenyUnit) (buf : Buffer) (e : DenyEntry) : DenyUnit :=
  { d with buffer := some { buf with entries := buf.entries ++ [e] }
           standbyFilter := filterSet d.standbyFilter (bucketOf e.tokenId)
           entriesTaken := d.entriesTaken + 1 }

/-- A new buffer for a bucket at chain position 1 (R159, R161). -/
def freshBuffer (bucket : Nat) : Buffer := { bucket := bucket, position := 1, target := bucket, entries := [] }

/-- An entry that joins the buffer, or starts it when it is empty (R160). -/
def DenyUnit.addJoining (d : DenyUnit) (e : DenyEntry) : DenyUnit :=
  d.takeInto (d.buffer.getD (freshBuffer (bucketOf e.tokenId))) e

/-- A closing flush: the job's target and content, and the unit with the entry in a new buffer (R161). -/
def DenyUnit.addClosing (d : DenyUnit) (buf : Buffer) (e : DenyEntry) : Job × DenyUnit :=
  (.flush buf.target { entries := buf.entries, next := none }, d.takeInto (freshBuffer (bucketOf e.tokenId)) e)

/-- A linked flush: the next overflow page is allocated and becomes the new buffer's target (R161). -/
def DenyUnit.addLinked (d : DenyUnit) (buf : Buffer) (e : DenyEntry) : Job × DenyUnit :=
  (.flush buf.target { entries := buf.entries, next := some d.overflowUsed },
   { d with overflowUsed := d.overflowUsed + 1 }.takeInto
     { bucket := buf.bucket, position := buf.position + 1, target := overflowPage d.overflowUsed, entries := [] } e)

/-- How a LIST_ADD ends: all taken, one refused, or refused BUSY as a whole. -/
inductive AddEnd where
  | taken
  | refused (r : StationReason)
  | wholeBusy
deriving DecidableEq, Repr

/-- The result of a LIST_ADD at the writer: the unit, the flush it started, the count taken, and how it ended. -/
structure AddResult where
  unit : DenyUnit
  flush : Option Job
  count : Nat
  ending : AddEnd
deriving DecidableEq, Repr

/-- The entries of a LIST_ADD judged in order (R160, R161). `jobAtStart`: a background job existed as the command was
taken; `flush`: the flush this command has started. -/
def addEntries (jobAtStart : Bool) : DenyUnit → Option Job → Nat → List DenyEntry → AddResult
  | d, flush, count, [] => { unit := d, flush := flush, count := count, ending := .taken }
  | d, flush, count, e :: rest =>
    match d.judgeAdd e, d.buffer with
    | .refused r, _ => { unit := d, flush := flush, count := count, ending := .refused r }
    | .joins, _ => addEntries jobAtStart (d.addJoining e) flush (count + 1) rest
    | .closingFlush, some buf =>
      if jobAtStart then { unit := d, flush := flush, count := count, ending := .wholeBusy }
      else if flush.isSome then { unit := d, flush := flush, count := count, ending := .refused .busy }
      else addEntries jobAtStart (d.addClosing buf e).2 (some (d.addClosing buf e).1) (count + 1) rest
    | .linkedFlush, some buf =>
      if jobAtStart then { unit := d, flush := flush, count := count, ending := .wholeBusy }
      else if flush.isSome then { unit := d, flush := flush, count := count, ending := .refused .busy }
      else addEntries jobAtStart (d.addLinked buf e).2 (some (d.addLinked buf e).1) (count + 1) rest
    | .closingFlush, none => addEntries jobAtStart (d.addJoining e) flush (count + 1) rest
    | .linkedFlush, none => addEntries jobAtStart (d.addJoining e) flush (count + 1) rest

/-- An entry of LIST_ADD in its ranges (R160). -/
def addEntryOf (e : AddEntry) : Option DenyEntry :=
  match e.action with
  | some action =>
    if e.tokenId ≠ 0 ∧ within 1 127 e.reason then some { tokenId := e.tokenId, action := action, reason := e.reason }
    else none
  | none => none

/-- The entries of a LIST_ADD, when their count is 1 to 8 and each is in its ranges (R160). -/
def addEntriesOf (es : List AddEntry) : Option (List DenyEntry) :=
  if within 1 8 es.length then allSome (es.map addEntryOf) else none

/-- The writer emptied: no buffer (R159). -/
def DenyUnit.emptyBuffer (d : DenyUnit) : DenyUnit := { d with buffer := none }

/-- LIST_BEGIN at the unit (R157). -/
def DenyUnit.begin (d : DenyUnit) : DenyUnit :=
  { d with standbyFilter := 0, buffer := none, entriesTaken := 0, overflowUsed := 0, standby := .erasing }

/-- The standby state set. -/
def DenyUnit.setStandby (d : DenyUnit) (x : Standby) : DenyUnit := { d with standby := x }

/-- The switch of a commit (R164). -/
def DenyUnit.switch (d : DenyUnit) : DenyUnit :=
  { d with selector := d.standbyBank, noList := false, generation := d.generation + 1,
           activeFilter := d.standbyFilter, standbyFilter := 0, standby := .stale, buffer := none,
           entriesTaken := 0, overflowUsed := 0 }

/-! ## Start-up and rebuild -/

/-- The start-up bank choice from the two judged headers (R166). -/
def bankChoice (a b : Option Nat) : Bank × Nat × Bool :=
  match a, b with
  | some ga, none => (.bankA, ga, false)
  | none, some gb => (.bankB, gb, false)
  | some ga, some gb => if ga < gb then (.bankB, gb, false) else (.bankA, ga, false)
  | none, none => (.bankB, 0, true)

/-- A rebuild scan at its start (R168). -/
def Rebuild.start : Rebuild := { position := 0, fresh := 0 }

/-- The unit after the bank choice: filters set, the rebuild scan started unless NO_LIST (R166, R168). -/
def DenyUnit.choose (d : DenyUnit) (a b : Option Nat) : DenyUnit :=
  let c := bankChoice a b
  { d with selector := c.1, generation := c.2.1, noList := c.2.2, activeFilter := BitVec.allOnes 4096,
           standbyFilter := 0, standby := .stale, rebuild := if c.2.2 then none else some Rebuild.start }

/-- A rebuild read judged (R168): the bucket's bit is set unless the page is erased, and the position advances. -/
def Rebuild.judge (r : Rebuild) (res : PageResult) : Rebuild :=
  { position := r.position + 1
    fresh := if res = .erased then r.fresh else filterSet r.fresh r.position }

/-- The deny list unit at a warm restart (R170): the queue emptied, an interrupted scan started again, an unfinished
standby bank FAULT with the writer emptied. -/
def DenyUnit.restarted (d : DenyUnit) : DenyUnit :=
  let d := { d with queue := [], rebuild := d.rebuild.map fun _ => Rebuild.start }
  match d.standby with
  | .stale | .fault => d
  | .erasing | .opened | .committing =>
    { d with standby := .fault, buffer := none, entriesTaken := 0, overflowUsed := 0 }

/-- Whether a warm restart interrupts a list update (R170). -/
def DenyUnit.unfinished (d : DenyUnit) : Bool :=
  match d.standby with
  | .stale | .fault => false
  | .erasing | .opened | .committing => true

end Sys2Proof.Machine
end

