-- ==== Sys2Proof/Machine/Flash.lean ====
section
/-!
DEFINITION. The list flash port's own operations: the streak rule, the operations of the background job, erase suspend,
time limits (R171 to R186).
-/
namespace Sys2Proof.Machine

/-- The most suspends of one sector erase (R179). -/
def suspendBudget : Nat := 8

/-- The most lookup reads granted in a row while a background operation waits (R177). -/
def streakLimit : Nat := 8

/-- The shortest run of an erase before a suspend: 2 ms (R179). -/
def eraseRunMs : Nat := 2

/-- The time limit of a page program: 10 ms (R182). -/
def programLimitMs : Nat := 10

/-- The time limit of a sector erase: 2000 ms (R182). -/
def eraseLimitMs : Nat := 2000

/-- The time the cold start waits for the flash: 2000 ms (R220). -/
def flashReadyMs : Nat := 2000

/-- The number of sector erases of a list erase (R157). -/
def listSectors : Nat := 320

/-- The bank sector of a list erase by its order: the header sector 319 first, then 0 to 318 (R157, R175). -/
def listEraseSector (index : Nat) : Nat := if index = 0 then 319 else index - 1

/-- What the next operation of a job is (R175). -/
inductive JobOp where
  | erase (sector : Nat)
  | program (page : Nat) (bytes : Page)
  | rebuildRead (page : Nat)
deriving DecidableEq, Repr

/-- Entries `16 j` to `16 j + 15` of a fare table: the half page `j` of the settings image (R183). -/
def fareHalfEntries (t : List FareEntry) (j : Nat) : List FareEntry := (t.drop (16 * j)).take 16

/-- The bytes of content page `j` of the settings image, 0 to 32 (R183). -/
def imagePageBytes (c : SettingsCopy) (j : Nat) : Page :=
  if j < 32 then farePageBytes (fareHalfEntries c.fare j) else settingsPageBytes c

/-- The flash page of the image header (R183). -/
def imageHeaderPage : Nat := 10240

/-- The flash page of content page `j` (R183). -/
def imageContentPage (j : Nat) : Nat := 10241 + j

/-- The number of operations of a settings store: three erases, 33 content pages, the header (R175, R184). -/
def storeOps : Nat := 37

/-- A job's next operation at the flash, with the deny list unit it reads (R157, R161, R164, R168, R184). -/
def jobOp (d : DenyUnit) : Job → JobOp
  | .listErase i => .erase (bankFlashSector d.standbyBank (listEraseSector i))
  | .flush target content => .program (bankFlashPage d.standbyBank target) (denyPageBytes content)
  | .commit (some (target, content)) => .program (bankFlashPage d.standbyBank target) (denyPageBytes content)
  | .commit none =>
    .program (bankFlashPage d.standbyBank headerPage)
      (bankHeaderBytes (d.generation + 1) d.entriesTaken d.overflowUsed)
  | .rebuild => .rebuildRead (bankFlashPage d.selector ((d.rebuild.map (·.position)).getD 0))
  | .settingsStore copy i =>
    if i < 3 then .erase (640 + i)
    else if i < 36 then .program (imageContentPage (i - 3)) (imagePageBytes copy (i - 3))
    else .program imageHeaderPage imageHeaderBytes

/-- Whether a sector erase is held SUSPENDED (R171). -/
def FlashPort.eraseSuspended (p : FlashPort) : Bool :=
  match p.held with
  | some h => h.suspended
  | none => false

/-- The operation granted to the background job (R177, R180): the resume of a suspended erase, otherwise the job's next
operation, issued now. The streak count becomes 0. -/
def FlashPort.grantJob (p : FlashPort) (next : JobOp) (now : Nat) : FlashPort :=
  match p.held with
  | some h =>
    { p with held := some { h with suspended := false }, op := some (.sectorErase h.sector), due := none,
             runSince := some now, streak := 0 }
  | none =>
    match next with
    | .erase sector =>
      { p with held := some { sector := sector, suspended := false, issued := now },
               op := some (.sectorErase sector), due := none, suspendCount := 0, runSince := some now, streak := 0 }
    | .program page bytes => { p with op := some (.pageProgram page bytes now), due := none, streak := 0 }
    | .rebuildRead page => { p with op := some (.pageRead .rebuild page), due := none, streak := 0 }

/-- A lookup read granted (R177): the streak count rises when a background operation waited. -/
def FlashPort.grantLookup (p : FlashPort) (page : Nat) (jobWaits : Bool) : FlashPort :=
  { p with op := some (.pageRead .lookup page), due := none,
           streak := if jobWaits then bumpTo streakLimit p.streak else p.streak }

/-- The background job ended: the port's job is absent and the streak count 0 (R175). -/
def FlashPort.endJob (p : FlashPort) : FlashPort := { p with job := none, streak := 0 }

/-- The grant decided by the streak rule among the requests standing (R177): `lookup` says whether the head lookup wants
a read. -/
def FlashPort.choose (p : FlashPort) (lookup : Bool) : Option Grant :=
  if lookup && (p.job.isNone || decide (p.streak < streakLimit)) then some (.lookup p.job.isSome)
  else if p.job.isSome then some .job
  else none

/-- The free port decides its grant among the requests standing, unless one is decided already (R177, R178). -/
def FlashPort.arbitrate (p : FlashPort) (lookup : Bool) : FlashPort :=
  match p.op, p.due with
  | none, none => { p with due := p.choose lookup }
  | _, _ => p

/-- The held erase ended (R179, R182). -/
def FlashPort.endErase (p : FlashPort) : FlashPort := { p with held := none, suspendCount := 0, runSince := none }

/-- The operation in progress ended: the port is free, no grant decided yet (R171). -/
def FlashPort.free (p : FlashPort) : FlashPort := { p with op := none, due := none }

/-- Whether the time limit of the held erase was reached before now, with the erase still in progress (R182, log 27). -/
def FlashPort.eraseOverdue (p : FlashPort) (now : Nat) : Bool :=
  match p.held with
  | some h => decide (h.issued + eraseLimitMs < now)
  | none => false

/-- Whether the time limit of the held erase is reached (R182). -/
def FlashPort.eraseLimitReached (p : FlashPort) (now : Nat) : Bool :=
  match p.held with
  | some h => decide (h.issued + eraseLimitMs ≤ now)
  | none => false

/-- Whether the port issues a suspend (R179): an erase runs, its budget is not spent, and it has run for 2 ms. -/
def FlashPort.maySuspend (p : FlashPort) (now : Nat) : Bool :=
  match p.op, p.runSince with
  | some (.sectorErase _), some since => decide (p.suspendCount < suspendBudget) && decide (since + eraseRunMs ≤ now)
  | _, _ => false

/-- The port at step 1 of a warm restart (R186, R218): the operation in progress abandoned for the reset operation, no
grant, no held erase, no job, counts 0. -/
def FlashPort.stopped (p : FlashPort) : FlashPort :=
  { p with op := some .reset, due := none, held := none, suspendCount := 0, runSince := none, streak := 0, job := none }

/-- The port at step 4 of a warm restart (R186, R218): a STORING store is FAULT, and an interrupted rebuild scan is the
job again (R170). -/
def FlashPort.restarted (p : FlashPort) (rebuild : Bool) : FlashPort :=
  { p with job := if rebuild then some .rebuild else none,
           store := if p.store = .storing then .fault else p.store }

end Sys2Proof.Machine
end

