-- ==== Sys2Proof/Machine/Log.lean ====
section
/-!
DEFINITION. The trip log's own operations (R187 to R198).
-/
namespace Sys2Proof.Machine

/-- Free slots: 1024 less the record count (R187). -/
def TripLog.freeSlots (g : TripLog) : Nat := 1024 - g.records.length

/-- Whether the free slots are more than the reserve count: the test of R191 and R194. -/
def TripLog.room (g : TripLog) : Bool := decide (g.reserve < g.freeSlots)

/-- An append at the youngest end with the next sequence number, which then rises by one and wraps (R188). -/
def TripLog.append (g : TripLog) (c : Content) : TripLog :=
  { g with records := g.records ++ [{ seq := g.nextSeq, content := c }], nextSeq := g.nextSeq + 1 }

/-- A reservation: granted when there is room, otherwise refused LOG_FULL (R191). -/
def TripLog.reserveSlot (g : TripLog) : Option TripLog :=
  if g.room then some { g with reserve := g.reserve + 1 } else none

/-- A release of a reserved slot (R192). -/
def TripLog.releaseSlot (g : TripLog) : TripLog := { g with reserve := g.reserve - 1 }

/-- A reserved append: the record goes into the holder's slot (R193). -/
def TripLog.appendReserved (g : TripLog) (c : Content) : TripLog := (g.append c).releaseSlot

/-- An unreserved append: written when there is room, otherwise refused (R194). -/
def TripLog.appendUnreserved (g : TripLog) (c : Content) : Option TripLog :=
  if g.room then some (g.append c) else none

/-- The oldest `k` records removed (R197). -/
def TripLog.drop (g : TripLog) (k : Nat) : TripLog := { g with records := g.records.drop k }

/-- The sequence number of the oldest record, absent when the log is empty (R187). -/
def TripLog.oldestSeq (g : TripLog) : Option (BitVec 16) := g.records.head?.map (·.seq)

end Sys2Proof.Machine
end

