-- ==== Sys2Proof/Machine/Ops.lean ====
section
/-!
DEFINITION. The named operations over the whole state: accessors, the events that pass from one block to another
(claims, drops, voids, commits, releases of holdings, the end of a call), and the tick of the time base.
-/
namespace Sys2Proof.Machine

/-! ## Accessors and updates -/

/-- The state with another clock. -/
def State.withClock (s : State) (x : Clock) : State := { s with clock := x }
/-- The state with another keep unit. -/
def State.withKeep (s : State) (x : Keep) : State := { s with keep := x }
/-- The state with other lanes. -/
def State.withLanes (s : State) (x : PerLane Lane) : State := { s with lanes := x }
/-- The state with other berths. -/
def State.withBerths (s : State) (x : PerBerth Berth) : State := { s with berths := x }
/-- The state with another fare table. -/
def State.withFare (s : State) (x : List FareEntry) : State := { s with fare := x }
/-- The state with another recent-tap table. -/
def State.withTaps (s : State) (x : List TapEntry) : State := { s with taps := x }
/-- The state with another deny list unit. -/
def State.withDeny (s : State) (x : DenyUnit) : State := { s with deny := x }
/-- The state with another list flash port. -/
def State.withPort (s : State) (x : FlashPort) : State := { s with port := x }
/-- The state with another trip log. -/
def State.withLog (s : State) (x : TripLog) : State := { s with log := x }
/-- The state with other REFUSAL records asked for. -/
def State.withAsked (s : State) (x : List Content) : State := { s with asked := x }
/-- The state with another station port. -/
def State.withStation (s : State) (x : Station) : State := { s with station := x }
/-- The state with another queue of commands. -/
def State.withPending (s : State) (x : List Instr) : State := { s with pending := x }

/-- A lane. -/
def State.lane (s : State) (l : LaneId) : Lane := s.lanes.get l
/-- A lane replaced. -/
def State.setLane (s : State) (l : LaneId) (x : Lane) : State := s.withLanes (s.lanes.set l x)
/-- A lane changed. -/
def State.updLane (s : State) (l : LaneId) (f : Lane → Lane) : State := s.setLane l (f (s.lane l))
/-- A berth. -/
def State.berth (s : State) (b : BerthId) : Berth := s.berths.get b
/-- A berth replaced. -/
def State.setBerth (s : State) (b : BerthId) (x : Berth) : State := s.withBerths (s.berths.set b x)
/-- The berth record of a berth; none in VACANT. -/
def State.call (s : State) (b : BerthId) : Option Call := (s.berth b).call

/-- The millisecond time base as it stands. -/
def State.now (s : State) : Nat := s.clock.timeBase

/-- Whether the part runs: it is neither held in reset nor in a restart (R216, R219). -/
def State.running (s : State) : Bool :=
  match s.keep.run with
  | .running => true
  | .held _ => false
  | .warmRestart _ => false
  | .coldStart _ => false

/-- An event of a part that runs; while it is held in reset or restarts, no block takes it (R216, R219). -/
def State.whenRunning (s : State) (f : State → State) : State := if s.running then f s else s

/-- Whether a deadline is present and reached (R89). -/
def State.reached (s : State) (deadline : Option Nat) : Bool :=
  match deadline with
  | some d => decide (d ≤ s.now)
  | none => false

/-! ## Latches and statistics -/

/-- The latched causes changed (R208). -/
def State.latch (s : State) (f : Causes → Causes) : State :=
  s.withStation { s.station with causes := f s.station.causes }

/-- LANE_FAULT latched (R74, R75). -/
def State.latchLaneFault (s : State) : State := s.latch fun c => { c with laneFault := true }
/-- LIST_DONE latched (R158, R162, R164, R165, R169, R170). -/
def State.latchListDone (s : State) : State := s.latch fun c => { c with listDone := true }
/-- SETTINGS_DONE latched (R184, R186). -/
def State.latchSettingsDone (s : State) : State := s.latch fun c => { c with settingsDone := true }
/-- RESTARTED latched (R214). -/
def State.latchRestarted (s : State) : State := s.latch fun c => { c with restarted := true }

/-- The landing statistics changed (R212). -/
def State.count (s : State) (f : LandingStats → LandingStats) : State :=
  s.withStation { s.station with stats := f s.station.stats }

/-- A lane's statistics changed (R67). -/
def State.countLane (s : State) (l : LaneId) (f : LaneStats → LaneStats) : State :=
  s.updLane l fun x => { x with stats := f x.stats }

/-- The bytes of the reply last formed on a lane link (R43, R222). -/
def State.laneOut (s : State) (l : LaneId) : List Byte :=
  match (s.lane l).reply with
  | some r => r.bytes
  | none => []

/-- The bytes of the reply last formed on a dock link (R5, R222). -/
def State.dockOut (s : State) (b : BerthId) : List Byte :=
  match (s.berth b).reply with
  | some r => r.bytes
  | none => []

/-- The reply formed on a lane link (R43). -/
def State.replyLane (s : State) (l : LaneId) (r : Option LaneReply) : State :=
  s.updLane l fun x => { x with reply := r }

/-- The reply formed on a dock link (R5). -/
def State.replyDock (s : State) (b : BerthId) (r : Option DockReply) : State :=
  s.setBerth b { s.berth b with reply := r }

/-- An evaluation context set (R107). -/
def State.setContext (s : State) (l : LaneId) (c : Context) : State := s.updLane l fun x => { x with ctx := c }

/-! ## The trip log -/

/-- A reserved append (R193). -/
def State.appendReserved (s : State) (c : Content) : State := s.withLog (s.log.appendReserved c)

/-- An unreserved append; refused, it raises "unlogged records" (R194). -/
def State.appendUnreserved (s : State) (c : Content) : State :=
  match s.log.appendUnreserved c with
  | some g => s.withLog g
  | none => s.count fun x => { x with unlogged := bump x.unlogged }

/-- The REFUSAL records asked for and not yet taken, taken by the log one after another (R195, log 34). -/
def State.takeAsked (s : State) : State := s.asked.foldl State.appendUnreserved (s.withAsked [])

/-- A log slot released (R192). -/
def State.releaseSlot (s : State) : State := s.withLog s.log.releaseSlot

/-- A held use released (R140). -/
def State.releaseUse (s : State) (id : TokenId) : State := s.withTaps (tapRelease s.taps id)

/-! ## Berths -/

/-- The berth record replaced; BERTH_EVENT is latched where R37 says so. -/
def State.setCall (s : State) (b : BerthId) (c : Option Call) : State :=
  let s' := s.setBerth b { s.berth b with call := c }
  if berthEvent (s.call b) c then s'.latch fun x => { x with berthEvent := true } else s'

/-- The staged plan of a berth replaced or removed (R10, R32). -/
def State.setPlan (s : State) (b : BerthId) (p : Option Plan) : State := s.setBerth b { s.berth b with plan := p }

/-- An open call changed; nothing happens in VACANT. -/
def State.updCall (s : State) (b : BerthId) (f : Call → Call) : State :=
  match s.call b with
  | some c => s.setCall b (some (f c))
  | none => s

/-- A commit or release sent by a lane to its berth; the berth takes it as an event of its own (R7, R26, R28). -/
def State.sendBerth (s : State) (b : BerthId) (l : LaneId) (m : Holding) : State := s.updCall b fun c => c.send l m

/-- A commit or release sent to the berth of a boarding lane; an ENTRY lane has none. -/
def State.sendHolding (s : State) (b : Option BerthId) (l : LaneId) (m : Holding) : State :=
  match b with
  | some b => s.sendBerth b l m
  | none => s

/-- The berth takes every message in flight (R7): within a release of holdings and within a warm restart. -/
def State.takeAllInFlight (s : State) (b : BerthId) : State := s.updCall b (Call.takeWhere fun _ => true)

/-- A place claim of a lane (R25): the lane's own earlier messages reach a BOARDING berth first (log 8). The refusal,
or none when granted. -/
def State.claimPlace (s : State) (b : BerthId) (l : LaneId) : State × Option Reason :=
  match admissionRefusal (s.call b), s.call b with
  | some r, _ => (s, some r)
  | none, none => (s, some .notBoarding)
  | none, some c =>
    let c1 := c.takeWhere fun x => decide (x = l)
    if c1.hasRoom then (s.setCall b (some { c1 with reserved := c1.reserved + 1 }), none)
    else (s.setCall b (some c1), some .full)

/-! ## Lanes: drops, voids -/

/-- Dropping an offer (R49): its three claims are released, the context is FREE, the take deadline is removed. -/
def State.dropOffer (s : State) (l : LaneId) (o : Offer) : State :=
  let s1 := (s.releaseUse o.tokenId).releaseSlot
  let s2 := s1.updLane l fun x =>
    { x with ctx := .free, takeDeadline := none,
             stats := { x.stats with offersDropped := bump x.stats.offersDropped } }
  s2.sendHolding (s.lane l).role.boards l .release

/-- The VOID record of an entry (R62). -/
def Entry.voidContent (e : Entry) (l : LaneId) (time : Option CalTime) (reason : VoidReason) : Content :=
  .void time l e.berth e.tokenId e.page e.index (if reason = .writeFailed then 0 else e.charge) e.confirmation reason

/-- A void of an entry (R62); `rest` is the lane's list without it. -/
def State.voidEntry (s : State) (l : LaneId) (e : Entry) (rest : List Entry) (reason : VoidReason) : State :=
  let s1 := s.updLane l fun x =>
    { x with entries := rest, stats := { x.stats with voided := bump x.stats.voided } }
  let s2 := (s1.appendReserved (e.voidContent l s.clock.calendar reason)).releaseUse e.tokenId
  s2.sendHolding e.berth l .release

/-- Entries voided one after another, older first (R64, R65, R68). -/
def State.voidList (s : State) (l : LaneId) (reason : VoidReason) : List Entry → State
  | [] => s
  | e :: rest => (s.voidEntry l e rest reason).voidList l reason rest

/-- Every pending passage entry of a lane voided, older first. -/
def State.voidAll (s : State) (l : LaneId) (reason : VoidReason) : State := s.voidList l reason (s.lane l).entries

/-- A lane's offer dropped, when its context holds one (R64). -/
def State.dropIfOffer (s : State) (l : LaneId) : State :=
  match (s.lane l).ctx with
  | .offer o => s.dropOffer l o
  | .free | .waiting _ _ | .refused _ => s

/-- A lane's holdings ended: its offer dropped and its entries voided (R64). -/
def State.endHoldings (s : State) (l : LaneId) (reason : VoidReason) : State := (s.dropIfOffer l).voidAll l reason

/-- The lanes' part of a release of holdings (R64), lanes in order (log 22). -/
def State.endBerthHoldings (s : State) (b : BerthId) (reason : VoidReason) : List LaneId → State
  | [] => s
  | l :: rest =>
    if (s.lane l).role.boards = some b then (s.endHoldings l reason).endBerthHoldings b reason rest
    else s.endBerthHoldings b reason rest

/-- A berth's release of holdings (R7): the lanes end theirs, and the berth takes every message in flight. -/
def State.releaseHoldings (s : State) (b : BerthId) (reason : VoidReason) : State :=
  (s.endBerthHoldings b reason LaneId.list).takeAllInFlight b

/-- The end of a call (R8): the DEPARTURE record into the berth's slot, the record cleared. -/
def State.endCall (s : State) (b : BerthId) (noHandover : Bool) : State :=
  match s.call b with
  | some c => (s.appendReserved (c.departure s.clock.calendar noHandover)).setCall b none
  | none => s

/-! ## Lookups -/

/-- "Lookups started" raised at a lookup's first page read (R152). -/
def State.countStart (s : State) (q : Lookup) : State :=
  if q.captured.isNone then s.count fun x => { x with lookupsStarted := bump x.lookupsStarted } else s

/-- The head lookup's page read granted (R153, R177): it captures its bank at its first read. -/
def State.grantRead (s : State) (jobWaits : Bool) : State :=
  match s.deny.queue with
  | q :: _ =>
    ((s.countStart q).withDeny s.deny.startRead).withPort
      (s.port.grantLookup (bankFlashPage (q.captured.getD s.deny.selector) q.nextPage) jobWaits)
  | [] => s.withPort { s.port with due := none }

/-- The free port decides its grant among the requests standing (R177, R178). -/
def State.arbitrate (s : State) : State := s.withPort (s.port.arbitrate s.deny.wantsRead)

/-- A background job created at the port (R175): its request joins those standing. -/
def State.createJob (s : State) (j : Job) : State := (s.withPort { s.port with job := some j }).arbitrate

/-- Whether the port has granted the next page read to a lane's lookup and not yet issued it (R178). -/
def State.grantedLookup (s : State) (l : LaneId) : Option Bool :=
  match s.port.op, s.port.due, s.deny.queue with
  | none, some (.lookup jobWaits), q :: _ => if q.lane = l then some jobWaits else none
  | _, _, _ => none

/-- A lookup out of the queue (R154): a read in progress runs on with nobody to judge it. -/
def State.removeLookup (s : State) (l : LaneId) : State :=
  let reading := s.deny.queue.any fun q => decide (q.lane = l) && q.reading
  let s1 := s.withDeny (s.deny.withoutLookup l)
  match reading, s.port.op with
  | true, some (.pageRead .lookup page) => s1.withPort { s.port with op := some (.pageRead .withdrawn page) }
  | _, _ => s1

/-- A lookup withdrawn (R154). A read the port had granted it runs, and its result is discarded (R178). -/
def State.withdrawLookup (s : State) (l : LaneId) : State :=
  match s.grantedLookup l with
  | some jobWaits => (s.grantRead jobWaits).removeLookup l
  | none => s.removeLookup l

/-- An evaluation in WAITING_LIST cancelled (R127): the lookup withdrawn, the context FREE. -/
def State.cancelEvaluation (s : State) (l : LaneId) : State := (s.withdrawLookup l).setContext l .free

/-! ## TAKE -/

/-- The pending passage entry an offer becomes (R50). -/
def Offer.entry (o : Offer) (role : Role) (settings : LaneSettings) (now : Nat) : Entry :=
  { tokenId := o.tokenId, medium := o.medium
    phase := match o.medium with | .card => .awaitWrite | .code => .awaitPassage
    confirmation := match o.medium with | .card => .unconfirmed | .code => .notNeeded
    fareClass := o.fareClass, charge := o.charge, page := o.product.page, index := o.product.index
    berth := role.boards, line := role.boards.map fun _ => o.line, tapTime := o.time
    deadline := match o.medium with
      | .card => now + settings.writeTimeout
      | .code => now + settings.passageTimeout * 1000
    flags := o.flags }

/-- A TAKE answered (R50, R52): a decided verdict is returned and the context FREE; an offer becomes an entry. -/
def Lane.answerTake (x : Lane) (now : Nat) : Lane :=
  match x.ctx with
  | .offer o =>
    { x with ctx := .free, takeDeadline := none, entries := x.entries ++ [o.entry x.role x.settings now],
             reply := some (.verdict (offerFrame o)) }
  | .refused r => { x with ctx := .free, reply := some (.verdict (refusedFrame r)) }
  | .free | .waiting _ _ => { x with reply := some (.verdict noVerdictFrame) }

/-- The end of a hold: a TAKE held at the lane is answered (R51). -/
def State.settle (s : State) (l : LaneId) : State :=
  if (s.lane l).takeHeld then s.updLane l fun x => { x with takeHeld := false }.answerTake s.now else s

/-! ## Decisions -/

/-- What an evaluation has taken so far: what a REFUSE keeps of it (R107, R125). -/
structure Progress where
  token : TokenRecord
  arrival : Arrival
  roleClass : Option RoleClass
  line : Option Nat
  product : Option Product
  flags : DenyFlags
deriving DecidableEq, Repr

/-- The whole of an evaluation as progress, with what the deny check gave it. -/
def Evaluation.progress (e : Evaluation) (flags : DenyFlags) : Progress :=
  { token := e.token, arrival := { calendar := some e.time, base := e.base }, roleClass := some e.roleClass,
    line := some e.line, product := some e.product, flags := flags }

/-- The REFUSE verdict of a decision (R125). -/
def Progress.refused (p : Progress) (reason : Reason) (denyReason : Option Nat) : Refused :=
  { tokenId := p.token.id, arrival := p.arrival, roleClass := p.roleClass, line := p.line, product := p.product,
    reason := reason, denyReason := denyReason, flags := p.flags, remaining := recordBalance p.token }

/-- The REFUSAL record a REFUSE decision asks for (R126). A decision that refuses LOG_FULL makes two requests of the log,
the claim and the append: the append is asked for and taken later, with the log as it then stands (R195, log 34).
Appends asked for earlier are taken before. -/
def State.askRefusal (s : State) (reason : Reason) (c : Content) : State :=
  match reason with
  | .logFull => s.withAsked (s.asked ++ [c])
  | _ => s.takeAsked.appendUnreserved c

/-- A REFUSE decision (R125, R126): the verdict, "refused", the REFUSAL record when "log refusals" is on; a held TAKE
is answered. -/
def State.decideRefuse (s : State) (l : LaneId) (p : Progress) (reason : Reason) (denyReason : Option Nat) : State :=
  let s1 := s.updLane l fun x =>
    { x with ctx := .refused (p.refused reason denyReason),
             stats := { x.stats with refused := bump x.stats.refused } }
  let s2 := if s.station.landing.logRefusals then
      s1.askRefusal reason (.refusal p.arrival.calendar l p.token.id reason denyReason)
    else s1
  s2.settle l

/-- The offer of an ADMIT decision (R124, R125). -/
def Evaluation.offer (e : Evaluation) (flags : DenyFlags) (charge : Nat) (cls : FareClass) (landingId : Nat) : Offer :=
  let remaining := remainingBalance e.token e.product.kind charge cls
  { tokenId := e.token.id, medium := e.token.medium, time := e.time, base := e.base, roleClass := e.roleClass,
    line := e.line, product := e.product, fareClass := cls, charge := charge, remaining := remaining, flags := flags,
    content := newContent e landingId remaining }

/-- An ADMIT decision (R124): the offer with its take deadline; a held TAKE is answered. -/
def State.decideOffer (s : State) (l : LaneId) (o : Offer) : State :=
  (s.updLane l fun x =>
    { x with ctx := .offer o, takeDeadline := some (s.now + x.settings.writeTimeout) }).settle l

/-- The third claim of a decision (R123): the place, on a boarding lane. Refused, the log slot and the held use are
released. -/
def State.decidePlace (s : State) (l : LaneId) (e : Evaluation) (o : Offer) : State :=
  match (s.lane l).role.boards with
  | none => s.decideOffer l o
  | some b =>
    match s.claimPlace b l with
    | (s1, none) => s1.decideOffer l o
    | (s1, some r) => (s1.releaseSlot.releaseUse e.token.id).decideRefuse l (e.progress o.flags) r none

/-- Checks 9 to 11 (R120 to R124): the charge, the claims in order (held use, log slot, place), the verdict. -/
def State.decideClaims (s : State) (l : LaneId) (e : Evaluation) (flags : DenyFlags) : State :=
  match chargeOf e s.taps with
  | .error r => s.decideRefuse l (e.progress flags) r none
  | .ok (charge, cls) =>
    match tapClaim s.taps e.token e.base with
    | .error r => s.decideRefuse l (e.progress flags) r none
    | .ok t =>
      match s.log.reserveSlot with
      | none => ((s.withTaps t).releaseUse e.token.id).decideRefuse l (e.progress flags) .logFull none
      | some g =>
        ((s.withTaps t).withLog g).decidePlace l e (e.offer flags charge cls s.station.landing.landingId)

/-- The fail policy applied to a deny check the list could not answer (R117). -/
def State.applyPolicy (s : State) (l : LaneId) (e : Evaluation) : State :=
  match s.station.landing.failPolicy with
  | .opened => s.decideClaims l e .unchecked
  | .closed => s.decideRefuse l (e.progress .clear) .listUnavailable none

/-- A lookup's outcome decides the deny check (R116). -/
def State.decideLookup (s : State) (l : LaneId) (e : Evaluation) : LookupOutcome → State
  | .notListed => s.decideClaims l e .clear
  | .listed .admitFlag reason => s.decideClaims l e (.flagged reason)
  | .listed .refuse reason => s.decideRefuse l (e.progress .clear) .denied (some reason)
  | .unreadable => s.applyPolicy l e

/-! ## The calendar and the tick -/

/-- The last calendar time, at which the calendar stops (R85). -/
def lastCalTime : CalTime := { day := 65535, second := 86399 }

/-- The next second of the calendar, with rollover; it stops at the last (R85). -/
def CalTime.next (t : CalTime) : CalTime :=
  if t.day = 65535 ∧ t.second = 86399 then t
  else if t.second < 86399 then { t with second := t.second + 1 }
  else { day := t.day + 1, second := 0 }

/-- A change of day handed to the recent-tap table (R85, R139); during a hold or restart it waits for the restart's end
(R216). -/
def State.handDay (s : State) (day : Nat) : State :=
  if s.running then s.withTaps (tapUnpin s.taps day) else s.withKeep { s.keep with dayChange := true }

/-- One millisecond of the time base; after 2^48 - 1 it holds a free value (R88, log 5). -/
def nextTimeBase (t : Nat) : Nat := if t + 1 < 2 ^ 48 then t + 1 else Config.timeBaseAfterTop.toNat

/-- One millisecond of the phase, kept within 0 to 999 (R84, R85): it stays 0 while the calendar is NOT_SET and holds at
0 at the calendar's last second. -/
def nextPhase (calendar : Option CalTime) (phase : Nat) : Nat :=
  match calendar with
  | some t => if t = lastCalTime then 0 else if phase < 999 then phase + 1 else 0
  | none => 0

/-- The calendar seconds due after one more millisecond (R85): one more where the phase returns to 0 (log 4). -/
def nextSecondsDue (calendar : Option CalTime) (phase secondsDue : Nat) : Nat :=
  match calendar with
  | some t => if t = lastCalTime then secondsDue else if phase < 999 then secondsDue else secondsDue + 1
  | none => 0

/-- One millisecond of the clock (R85, R88). -/
def Clock.tick (c : Clock) : Clock :=
  { timeBase := nextTimeBase c.timeBase, calendar := c.calendar, phase := nextPhase c.calendar c.phase,
    secondsDue := nextSecondsDue c.calendar c.phase c.secondsDue }

/-- One millisecond passed, in the part that runs, is held or is in a warm restart (R85, R88, R216, R218). -/
def State.passTime (s : State) : State := s.withClock s.clock.tick

end Sys2Proof.Machine
end

