-- ==== Sys2Proof/Machine/BerthEvents.lean ====
section
/-!
DEFINITION. The berth controllers' own events: the two deadlines (R18 to R20) and the taking of a lane's commit or
release (R26, R28).
-/
namespace Sys2Proof.Machine

/-- SILENCE_DEADLINE (R19): an open call whose silence deadline is reached is suspended. -/
def execSilenceDeadline (b : BerthId) (s : State) : Host.Outcome State Fault Refusal :=
  .next (s.whenRunning fun s =>
    match s.call b with
    | none => s
    | some c => if c.suspended = false ∧ s.reached c.silenceDeadline then s.setCall b (some c.suspend) else s)

/-- CLOSING_DEADLINE (R18, R20): the holdings are released with reason CLOSED and the state, or the prior state, becomes
HANDOVER. -/
def execClosingDeadline (b : BerthId) (s : State) : Host.Outcome State Fault Refusal :=
  .next (s.whenRunning fun s =>
    match s.call b with
    | none => s
    | some c =>
      if c.stage = .closing ∧ s.reached c.closingDeadline then
        (s.releaseHoldings b .closed).updCall b Call.graceExpired
      else s)

/-- The oldest message of a kind that a lane has in flight, taken out; none when there is none. -/
def takeMessage (l : LaneId) (m : Holding) : List (LaneId × Holding) → Option (List (LaneId × Holding))
  | [] => none
  | x :: rest => if x = (l, m) then some rest else (takeMessage l m rest).map (x :: ·)

/-- A berth takes the oldest commit, or release, that a lane has in flight (R17, R26, R28). -/
def State.takeFromLane (s : State) (b : BerthId) (l : LaneId) (m : Holding) : State :=
  match s.call b with
  | none => s
  | some c =>
    match takeMessage l m c.inFlight with
    | none => s
    | some rest => s.setCall b (some (({ c with inFlight := rest }.takeHolding m).closeIfEmpty))

/-- BERTH_COMMIT (R28). -/
def execBerthCommit (b : BerthId) (l : LaneId) (s : State) : Host.Outcome State Fault Refusal :=
  .next (s.whenRunning fun s => s.takeFromLane b l .commit)

/-- BERTH_RELEASE (R26). -/
def execBerthRelease (b : BerthId) (l : LaneId) (s : State) : Host.Outcome State Fault Refusal :=
  .next (s.whenRunning fun s => s.takeFromLane b l .release)

end Sys2Proof.Machine
end

