-- ==== Sys2Proof/Machine/DockLink.lean ====
section
/-!
DEFINITION. The dock link's messages (R4 to R15, R21 to R23).
-/
namespace Sys2Proof.Machine

/-- A good dock frame taken by a part that runs (R4, R5): the silence timer restarts where it runs (R6), fields that do
not fit get BAD_MESSAGE, and the reply is formed. -/
def State.onDock {α : Type} (s : State) (b : BerthId) (fields : Fields α) (f : α → State → State × DockReply) :
    State :=
  s.whenRunning fun s =>
    let s1 := s.updCall b fun c => c.heard s.now
    match fields with
    | .misfit => s1.replyDock b (some (.refusedBadMessage (callState (s1.call b))))
    | .fit args => (f args s1).1.replyDock b (some (f args s1).2)

/-- Whether the staged plan is applied to an arriving vessel (R10). -/
def planApplies (plan : Option Plan) (vesselId : Nat) : Bool :=
  match plan with
  | some p => planMatches p vesselId
  | none => false

/-- The call an accepted ARRIVE opens, plan applied and OVER judged (R9, R10). -/
def openedCall (a : ArriveArgs) (plan : Option Plan) (arrival : Option CalTime) (now : Nat) : Call :=
  match plan with
  | some p =>
    if planMatches p a.vesselId then ((Call.opened a arrival now).applyPlan p).judgeOver
    else (Call.opened a arrival now).judgeOver
  | none => (Call.opened a arrival now).judgeOver

/-- An ARRIVE taken at VACANT (R9, R10). -/
def State.openCall (s : State) (b : BerthId) (a : ArriveArgs) : State × DockReply :=
  if arrivalValid a then
    match s.log.reserveSlot with
    | none => (s, .arriveRefused (callState (s.call b)) .logFull)
    | some g =>
      let plan := (s.berth b).plan
      let c := openedCall a plan s.clock.calendar s.now
      let s1 := (s.withLog g).setCall b (some c)
      let applied := planApplies plan a.vesselId
      (if applied then s1.setPlan b none else s1,
       .arriveAccepted (callState (some c)) applied c.effectiveCap c.line)
  else (s, .arriveRefused (callState (s.call b)) .badArrival)

/-- An ARRIVE of another vessel in SUSPENDED (R23). -/
def State.replaceVessel (s : State) (b : BerthId) (a : ArriveArgs) : State × DockReply :=
  if arrivalValid a then ((s.releaseHoldings b .linkLost).endCall b true).openCall b a
  else (s, .arriveRefused (callState (s.call b)) .badArrival)

/-- ARRIVE by the berth's state (R9, R11, R22, R23). -/
def State.takeArrive (s : State) (b : BerthId) (a : ArriveArgs) : State × DockReply :=
  match s.call b with
  | none => s.openCall b a
  | some c =>
    if c.suspended then
      if a.vesselId = c.vesselId then
        (s.setCall b (some (c.resume s.now)),
         .arriveResumed (callState (some (c.resume s.now))) c.effectiveCap c.line c.onBoard)
      else s.replaceVessel b a
    else if a.vesselId = c.vesselId then
      (s, .arriveAlready (callState (some c)) c.effectiveCap c.line c.onBoard)
    else (s, .arriveRefused (callState (some c)) .berthOccupied)

/-- ARRIVE. -/
def execArrive (b : BerthId) (fields : Fields ArriveArgs) (s : State) : Host.Outcome State Fault Refusal :=
  .next (s.onDock b fields fun a s => s.takeArrive b a)

/-- RAMP_OPEN by the berth's state (R12, R21). -/
def State.takeRampOpen (s : State) (b : BerthId) : State × DockReply :=
  match s.call b with
  | none => (s, .rampWrongState .vacant)
  | some c =>
    if c.suspended then (s, .rampNeedArrive .suspended)
    else match c.stage with
      | .alighting => (s.setCall b (some { c with stage := .boarding }), .rampOk .boarding)
      | .boarding => (s, .rampAlready .boarding)
      | .closing => (s, .rampWrongState .closing)
      | .handover => (s, .rampWrongState .handover)

/-- RAMP_OPEN. -/
def execRampOpen (b : BerthId) (fields : Fields Unit) (s : State) : Host.Outcome State Fault Refusal :=
  .next (s.onDock b fields fun _ s => s.takeRampOpen b)

/-- The COUNT_REPLY of a berth (R15). -/
def countReply : Option Call → DockReply
  | none => .count .vacant none 0 0 0 0 0 0 false
  | some c =>
    .count (callState (some c)) (priorState (some c)) c.onBoard c.reserved c.boarded c.alighted c.tailgates
      c.effectiveCap c.isOver

/-- COUNT_QUERY (R15): it changes nothing but the silence deadline and the reply. -/
def execCountQuery (b : BerthId) (fields : Fields Unit) (s : State) : Host.Outcome State Fault Refusal :=
  .next (s.onDock b fields fun _ s => (s, countReply (s.call b)))

/-- The DEPART_REPLY of a berth in CLOSING or HANDOVER (R13). -/
def departReply (c : Call) : DockReply :=
  match c.stage with
  | .closing => .departClosing .closing c.reserved
  | .alighting | .boarding | .handover =>
    .departHandover .handover c.onBoard c.boarded c.alighted c.tailgates c.unmatched

/-- DEPART_REQ by the berth's state (R13, R16, R21). -/
def State.takeDepartReq (s : State) (b : BerthId) : State × DockReply :=
  match s.call b with
  | none => (s, .departWrongState .vacant)
  | some c =>
    if c.suspended then (s, .departNeedArrive .suspended)
    else match c.stage with
      | .alighting | .boarding =>
        let c1 := c.close s.now s.station.landing.closingGrace
        (s.setCall b (some c1), departReply c1)
      | .closing | .handover => (s, departReply c)

/-- DEPART_REQ. -/
def execDepartReq (b : BerthId) (fields : Fields Unit) (s : State) : Host.Outcome State Fault Refusal :=
  .next (s.onDock b fields fun _ s => s.takeDepartReq b)

/-- HANDOVER_TAKEN by the berth's state (R14, R21). -/
def State.takeHandover (s : State) (b : BerthId) : State × DockReply :=
  match s.call b with
  | none => (s, .handoverWrongState .vacant)
  | some c =>
    if c.suspended then (s, .handoverNeedArrive .suspended)
    else match c.stage with
      | .handover => (s.endCall b false, .handoverOk .vacant)
      | .alighting => (s, .handoverWrongState .alighting)
      | .boarding => (s, .handoverWrongState .boarding)
      | .closing => (s, .handoverWrongState .closing)

/-- HANDOVER_TAKEN. -/
def execHandoverTaken (b : BerthId) (fields : Fields Unit) (s : State) : Host.Outcome State Fault Refusal :=
  .next (s.onDock b fields fun _ s => s.takeHandover b)

/-- A bad dock frame (R4): no reply, no change. -/
def execDockBadFrame (b : BerthId) (s : State) : Host.Outcome State Fault Refusal :=
  .next (s.whenRunning fun s => s.replyDock b none)

/-- A good dock frame of an unknown kind (R4, R6). -/
def execDockUnknownMessage (b : BerthId) (s : State) : Host.Outcome State Fault Refusal :=
  .next (s.onDock b (.fit ()) fun _ s => (s, .refusedUnknownMessage (callState (s.call b))))

end Sys2Proof.Machine
end

