-- ==== Sys2Proof/Machine/Startup.lean ====
section
/-!
DEFINITION. The cold start (R166, R185, R220): initial values, the settings load, the bank choice and the end.
-/
namespace Sys2Proof.Machine

/-- A conditioner started afresh from its raw line (R70, R83). -/
def Conditioner.start (raw : Level) (now debounce : Nat) : Conditioner :=
  { Conditioner.fresh raw with debounceDeadline := if raw = .occupied then some (now + debounce) else none }

/-- A lane whose conditioner starts afresh with the debounce setting as it stands (R83). -/
def Lane.startConditioner (x : Lane) (now : Nat) : Lane :=
  { x with cond := Conditioner.start x.cond.raw now x.settings.debounce }

/-- A lane's link transaction abandoned: a held TAKE ends without a reply (R51, R68). -/
def Lane.abandonTake (x : Lane) : Lane := if x.takeHeld then { x with takeHeld := false, reply := none } else x

/-- A lane at the beginning of a cold start (R69, R70): its pin and what was sent on its link stand (log 28). -/
def Lane.cold (x : Lane) : Lane := { Lane.initial x.cond.raw with reply := x.abandonTake.reply }

/-- A berth at the beginning of a cold start (R1): what was sent on its link stands (log 28). -/
def Berth.cold (x : Berth) : Berth := { Berth.initial with reply := x.reply }

/-- The beginning of a cold start (R220 steps 1 and 2): every block at its initial value, the reset operation issued,
the mark COLD, the latch cleared by the judgement (R217). The pins, what was sent (R202, log 28) and the queue stand. -/
def State.beginCold (s : State) (cause : ResetCause) : State :=
  { clock := { timeBase := 0, calendar := none, phase := 0, secondsDue := 0 }
    keep := { run := .coldStart (.flashReset 0), resetCause := cause, latch := false, mark := .cold,
              resetInput := s.keep.resetInput, coreUp := s.keep.coreUp, dayChange := false }
    lanes := s.lanes.map Lane.cold
    berths := { a := s.berths.a.cold, b := s.berths.b.cold }
    fare := fareEmpty
    taps := []
    deny := DenyUnit.initial
    port := { FlashPort.initial with op := some .reset }
    log := TripLog.initial
    asked := []
    station := { Station.initial with shiftedOut := s.station.shiftedOut }
    pending := s.pending }

/-- The cold start in another stage with another operation at the flash. -/
def State.coldStage (s : State) (stage : ColdStage) (op : Option FlashOp) : State :=
  (s.withKeep { s.keep with run := .coldStart stage }).withPort { s.port with op := op }

/-- A start-up read issued (R185). -/
def startUpRead (page : Nat) : Option FlashOp := some (.pageRead .startUp page)

/-- A lane with the role and settings an image gives. -/
def Lane.load (x : Lane) (v : Role × LaneSettings) : Lane := { x with role := v.1, settings := v.2 }

/-- The lanes with the roles and settings an image gives. -/
def loadLanes (lanes : PerLane Lane) (v : PerLane (Role × LaneSettings)) : PerLane Lane :=
  { l0 := lanes.l0.load v.l0, l1 := lanes.l1.load v.l1, l2 := lanes.l2.load v.l2, l3 := lanes.l3.load v.l3,
    l4 := lanes.l4.load v.l4, l5 := lanes.l5.load v.l5, l6 := lanes.l6.load v.l6, l7 := lanes.l7.load v.l7 }

/-- The settings load (R185): a valid image's values, or the initial values, which are those of no valid image. -/
def State.loadSettings (s : State) : Option SettingsCopy → State
  | some img =>
    { s with fare := img.fare, lanes := loadLanes s.lanes img.lanes,
             station := { s.station with landing := img.landing }, port := { s.port with source := .image } }
  | none => s

/-- The end of a cold start (R220 steps 4 to 6): the bank choice, the rebuild scan as the background job unless
NO_LIST, the conditioners, the mark NONE, RESTARTED; the free port decides its grant (R178). -/
def State.finishCold (s : State) (a b : Option Nat) (op : Option FlashOp) : State :=
  let deny := s.deny.choose a b
  let s1 := (s.withDeny deny).withPort
    { s.port with op := op, job := if deny.noList then none else some .rebuild }
  let s2 := s1.withLanes (s1.lanes.map fun x => x.startConditioner s.now)
  (s2.withKeep { s2.keep with run := .running, mark := .unmarked }).latchRestarted.arbitrate

/-- "Unreadable pages" raised by three (R220 step 2). -/
def State.countUnread (s : State) : State :=
  s.count fun x => { x with unreadablePages := bumpBy 3 x.unreadablePages }

/-- The end of a cold start whose flash was still busy at its limit (R220 step 2): no start-up read is made; the image and
both headers are taken as unreadable. -/
def State.finishUnread (s : State) (op : Option FlashOp) : State := s.countUnread.finishCold none none op

/-- The settings image done with, bank A's header is read (R185). -/
def State.afterImage (s : State) (img : Option SettingsCopy) : State :=
  (s.loadSettings img).coldStage .bankHeaderA (startUpRead (bankFlashPage .bankA headerPage))

/-- A content page of the settings image read: the next one, or the load judged (R183, R185). -/
def State.afterContent (s : State) (pages : List Page) : State :=
  if pages.length < 33 then s.coldStage (.imageContent pages) (startUpRead (imageContentPage pages.length))
  else s.afterImage (imageSettings pages)

/-- A start-up read ends (R185, R220 steps 3 and 4). -/
def State.coldRead (s : State) (res : PageResult) : ColdStage → State
  | .flashReset _ => s
  | .imageHeader => if imageHeaderValid res then s.afterContent [] else s.afterImage none
  | .imageContent pages =>
    match res with
    | .good p => s.afterContent (pages ++ [p])
    | .erased | .unreadable => s.afterImage none
  | .bankHeaderA =>
    s.coldStage (.bankHeaderB (headerGeneration res)) (startUpRead (bankFlashPage .bankB headerPage))
  | .bankHeaderB a => s.finishCold a (headerGeneration res) none

end Sys2Proof.Machine
end

