-- ==== Sys2Proof/Machine/FlashPort.lean ====
section
/-!
DEFINITION. The list flash port's events: grants, suspends, ends of operations, time limits (R171 to R186), with what
their outcomes do at the deny list unit and the settings store (R153, R158, R162, R164, R165, R168, R169).
-/
namespace Sys2Proof.Machine

/-! ## Grants and suspends -/

/-- The decided grant carried out (R177, R180). -/
def State.carryOut (s : State) : State :=
  match s.port.due, s.port.job with
  | some (.lookup jobWaits), _ => s.grantRead jobWaits
  | some .job, some job => s.withPort (s.port.grantJob (jobOp s.deny job) s.now)
  | some .job, none => s.withPort { s.port with due := none }
  | none, _ => s

/-- PORT_GRANT (R177, R178, R180): the free port carries out the grant it decided among the requests that stood when it
became free, or at the first request that reached it free (log 19). -/
def execPortGrant (s : State) : Host.Outcome State Fault Refusal :=
  .next (s.whenRunning fun s =>
    match s.port.op with
    | some _ => s
    | none => s.arbitrate.carryOut)

/-- SUSPEND_ISSUE (R179): the running erase is suspended for the head lookup. -/
def execSuspendIssue (s : State) : Host.Outcome State Fault Refusal :=
  .next (s.whenRunning fun s =>
    match s.port.op with
    | some (.sectorErase sector) =>
      if s.deny.wantsRead && s.port.maySuspend s.now then
        s.withPort { s.port with op := some (.suspend sector) }
      else s
    | _ => s)

/-! ## Ends of programs and erases -/

/-- The operation in progress ended (R171). -/
def State.endOp (s : State) : State := s.withPort s.port.free

/-- A failed outcome ends the job (R182): the held erase becomes absent and the owner responds (R158, R162, R165, R184).
`op`: what the port does next, the reset operation after a time limit. -/
def State.failJob (s : State) (op : Option FlashOp) : State :=
  let s1 := s.withPort { s.port.endErase.endJob with op := op, due := none }
  match s.port.job with
  | some (.listErase _) | some (.commit _) => (s1.withDeny (s.deny.setStandby .fault)).latchListDone
  | some (.flush _ _) => (s1.withDeny (s.deny.setStandby .fault).emptyBuffer).latchListDone
  | some (.settingsStore _ _) => (s1.withPort { s1.port with store := .fault }).latchSettingsDone
  | some .rebuild | none => s1

/-- A job with its next operation. -/
def State.nextOp (s : State) (j : Job) : State := s.withPort { s.port with job := some j }

/-- The settings store ended good (R184). -/
def State.storeDone (s : State) : State :=
  (s.withPort { s.port.endJob with store := .stored }).latchSettingsDone

/-- A sector erase ended good (R158, R184). -/
def State.eraseGood (s : State) : State :=
  let s1 := (s.withPort s.port.endErase).endOp
  match s.port.job with
  | some (.listErase i) =>
    if i + 1 < listSectors then s1.nextOp (.listErase (i + 1))
    else ((s1.withPort s1.port.endJob).withDeny (s.deny.setStandby .opened)).latchListDone
  | some (.settingsStore copy i) => s1.nextOp (.settingsStore copy (i + 1))
  | some (.flush _ _) | some (.commit _) | some .rebuild | none => s1

/-- A sector erase ended with its outcome (R182). -/
def State.eraseEnded (s : State) (good : Bool) : State := if good then s.eraseGood else s.failJob none

/-- The switch of a commit with its LIST_COMMIT record (R164). -/
def State.commitSwitch (s : State) : State :=
  ((s.withDeny s.deny.switch).appendUnreserved
    (.listCommit s.clock.calendar (s.deny.generation + 1) s.deny.entriesTaken)).latchListDone

/-- A page program ended good (R162, R164, R184). -/
def State.programGood (s : State) : State :=
  let s1 := s.endOp
  match s.port.job with
  | some (.flush _ _) => s1.withPort s1.port.endJob
  | some (.commit (some _)) => s1.nextOp (.commit none)
  | some (.commit none) => (s1.withPort s1.port.endJob).commitSwitch
  | some (.settingsStore copy i) =>
    if i + 1 < storeOps then s1.nextOp (.settingsStore copy (i + 1)) else s1.storeDone
  | some (.listErase _) | some .rebuild | none => s1

/-- A page program ended with its outcome (R182). -/
def State.programEnded (s : State) (good : Bool) : State := if good then s.programGood else s.failJob none

/-- Whether the time limit of a program was reached before now, with the program still in progress (R182, log 27). -/
def programOverdue (issued now : Nat) : Bool := decide (issued + programLimitMs < now)

/-- PAGE_PROGRAM_END (R171, R182): past its time limit the program was in progress when the limit was reached, so it ends
failed whatever the status, and the reset operation is issued. The freed port then decides its grant (R178). -/
def execPageProgramEnd (good : Bool) (s : State) : Host.Outcome State Fault Refusal :=
  .next (s.whenRunning fun s =>
    match s.port.op with
    | some (.pageProgram _ _ issued) =>
      (if programOverdue issued s.now then s.failJob (some .reset) else s.programEnded good).arbitrate
    | _ => s)

/-- SECTOR_ERASE_END (R171, R182): past its time limit the erase was in progress when the limit was reached, so it ends
failed whatever the status, and the reset operation is issued. The freed port then decides its grant (R178). -/
def execSectorEraseEnd (good : Bool) (s : State) : Host.Outcome State Fault Refusal :=
  .next (s.whenRunning fun s =>
    match s.port.op with
    | some (.sectorErase _) =>
      (if s.port.eraseOverdue s.now then s.failJob (some .reset) else s.eraseEnded good).arbitrate
    | _ => s)

/-- The suspend took hold (R179): the phase SUSPENDED, the suspend count and "erase suspends" raised, the port free. -/
def State.suspendHeld (s : State) : State :=
  (s.withPort { s.port with op := none, due := none, held := s.port.held.map fun h => { h with suspended := true },
                            suspendCount := s.port.suspendCount + 1 }).count
    fun x => { x with eraseSuspends := bump x.eraseSuspends }

/-- The time limit of the held erase acted on (R182): the erase ends failed and the reset operation is issued. -/
def State.actLimit (s : State) : State :=
  if s.port.eraseLimitReached s.now then s.failJob (some .reset) else s

/-- The end of a suspend by what the status showed (R179), with the erase's time limit acted on (R182, log 18). -/
def State.suspendEnded (s : State) : SuspendStatus → State
  | .suspended => s.suspendHeld.actLimit
  | .ended good => if s.port.eraseLimitReached s.now then s.actLimit else s.eraseEnded good

/-- SUSPEND_END (R179, R182). The freed port then decides its grant (R178). -/
def execSuspendEnd (status : SuspendStatus) (s : State) : Host.Outcome State Fault Refusal :=
  .next (s.whenRunning fun s =>
    match s.port.op with
    | some (.suspend _) => (s.suspendEnded status).arbitrate
    | _ => s)

/-! ## Ends of page reads -/

/-- The re-reads and an unreadable result counted (R173). -/
def State.countRead (s : State) (res : PageResult) (rereads : Nat) : State :=
  s.count fun x =>
    { x with pageReReads := bumpBy rereads x.pageReReads,
             unreadablePages := if res = .unreadable then bump x.unreadablePages else x.unreadablePages }

/-- A lookup's outcome handed to the evaluation that waits for it, or discarded (R116). -/
def State.handOutcome (s : State) (l : LaneId) (o : LookupOutcome) : State :=
  match (s.lane l).ctx with
  | .waiting e _ => s.decideLookup l e o
  | .free | .offer _ | .refused _ => s

/-- The lookup queue replaced (R152). -/
def State.withQueue (s : State) (queue : List Lookup) : State := s.withDeny { s.deny with queue := queue }

/-- A page read judged by the head lookup (R153). -/
def State.lookupRead (s : State) (res : PageResult) : State :=
  match s.deny.queue with
  | q :: rest =>
    match q.judge res with
    | .ends o => (s.withQueue rest).handOutcome q.lane o
    | .continues q' => s.withQueue (q' :: rest)
  | [] => s

/-- The end of a rebuild scan (R169). -/
def State.rebuildDone (s : State) (r : Rebuild) : State :=
  ((s.withDeny { s.deny with activeFilter := r.fresh, rebuild := none }).withPort s.port.endJob).latchListDone

/-- A rebuild read judged (R168, R169). -/
def State.rebuildRead (s : State) (res : PageResult) : State :=
  match s.deny.rebuild with
  | some r =>
    if (r.judge res).position < 4096 then s.withDeny { s.deny with rebuild := some (r.judge res) }
    else s.rebuildDone (r.judge res)
  | none => s

/-- The end of a page read while the part runs, its result handed to its requester (R173, R174); the time limit of a held
erase that was reached meanwhile is acted on then (R182). -/
def State.readEnded (s : State) (res : PageResult) : Requester → State
  | .lookup => (s.lookupRead res).actLimit
  | .withdrawn => s.actLimit
  | .rebuild => s.rebuildRead res
  | .startUp => s

/-- A page read ended and counted (R171, R173). -/
def State.endRead (s : State) (reads : FlashReads) : State :=
  s.endOp.countRead (judgeReads reads).1 (judgeReads reads).2

/-- PAGE_READ_END (R173, R174, R185): taken while the part runs, when the freed port then decides its grant (R178, R180),
and, for a start-up read, in a cold start. -/
def execPageReadEnd (reads : FlashReads) (s : State) : Host.Outcome State Fault Refusal :=
  .next (
    match s.keep.run, s.port.op with
    | .running, some (.pageRead who _) => ((s.endRead reads).readEnded (judgeReads reads).1 who).arbitrate
    | .coldStart stage, some (.pageRead .startUp _) => (s.endRead reads).coldRead (judgeReads reads).1 stage
    | _, _ => s)

/-! ## The reset operation and the time limits -/

/-- The page of the settings image header read first in a start (R185). -/
def State.beginImage (s : State) : State := s.coldStage .imageHeader (startUpRead imageHeaderPage)

/-- FLASH_RESET_END (R182, R186, R220 step 2): the freed port decides its grant, once a warm restart has ended (R218). In
a cold start an end later than the limit finds that the flash was still busy at it (log 27). -/
def execFlashResetEnd (s : State) : Host.Outcome State Fault Refusal :=
  .next (
    match s.port.op, s.keep.run with
    | some .reset, .running => s.endOp.arbitrate
    | some .reset, .warmRestart _ => s.endOp
    | some .reset, .coldStart (.flashReset waited) =>
      if flashReadyMs < waited then s.finishUnread none else s.beginImage
    | _, _ => s)

/-- Whether the time limit of a program is reached (R182). -/
def programLimitReached (issued now : Nat) : Bool := decide (issued + programLimitMs ≤ now)

/-- OPERATION_TIME_LIMIT (R182): a program or erase in progress, or an erase held SUSPENDED with no operation in
progress, whose limit is reached ends failed and the reset operation is issued. -/
def execOperationTimeLimit (s : State) : Host.Outcome State Fault Refusal :=
  .next (s.whenRunning fun s =>
    match s.port.op with
    | some (.pageProgram _ _ issued) => if programLimitReached issued s.now then s.failJob (some .reset) else s
    | some (.sectorErase _) | none => s.actLimit
    | some (.suspend _) | some (.pageRead _ _) | some .reset => s)

end Sys2Proof.Machine
end

