-- ==== Sys2Proof/Machine/LaneLink.lean ====
section
/-!
DEFINITION. The lane link's messages (R42 to R58, R66) and the checks a TAP makes (R108 to R115).
-/
namespace Sys2Proof.Machine

/-- A frame on a lane link is taken by a part that runs; while a TAKE is held the link clock is held low and no frame
reaches the lane (R51, log 10). -/
def State.onLane (s : State) (l : LaneId) (f : State → State) : State :=
  s.whenRunning fun s => if (s.lane l).takeHeld then s else f s

/-- "Bad frames" raised by one (R67). -/
def LaneStats.badFrame (x : LaneStats) : LaneStats := { x with badFrames := bump x.badFrames }

/-! ## TAP -/

/-- What a taken TAP first does to the lane's context (R45): a running evaluation is cancelled, an offer dropped, a
REFUSE discarded. -/
def State.clearForTap (s : State) (l : LaneId) : State :=
  match (s.lane l).ctx with
  | .free => s
  | .waiting _ _ =>
    (s.cancelEvaluation l).countLane l fun x => { x with tapsSuperseded := bump x.tapsSuperseded }
  | .offer o => s.dropOffer l o
  | .refused _ => s.setContext l .free

/-- Check 4 (R112): the current line, or the berth's refusal. -/
def State.currentLine (s : State) (l : LaneId) : Except Reason Nat :=
  match (s.lane l).role.boards with
  | none => .ok (s.lane l).settings.homeLine
  | some b =>
    match admissionRefusal (s.call b), s.call b with
    | some r, _ => .error r
    | none, some c => .ok c.line
    | none, none => .error .notBoarding

/-- Whether a lane's list refuses a TAP (R110): two entries, or an entry in AWAIT_WRITE. -/
def laneBusy (entries : List Entry) : Bool :=
  decide (2 ≤ entries.length) || entries.any fun e => decide (e.phase = .awaitWrite)

/-- What checks 1 to 7 find. -/
inductive TapJudgement where
  | refuse (p : Progress) (r : Reason)
  | pass (e : Evaluation)
deriving DecidableEq, Repr

/-- What a TAP starts with (R108). -/
def State.tapProgress (s : State) (l : LaneId) (t : TokenRecord) : Progress :=
  { token := t, arrival := { calendar := s.clock.calendar, base := s.now }, roleClass := roleClassOf (s.lane l).role,
    line := none, product := none, flags := .clear }

/-- Checks 5 to 7 with the current line (R113, R114): product, validity days, recent-tap table. -/
def State.judgeToken (s : State) (l : LaneId) (t : TokenRecord) (rc : RoleClass) (now : CalTime) (line : Nat) :
    TapJudgement :=
  let p1 : Progress := { s.tapProgress l t with line := some line }
  match resolveProduct s.fare t rc line now.second with
  | .error r => .refuse p1 r
  | .ok product =>
    let p2 : Progress := { p1 with product := some product }
    match judgeDays t now.day with
    | some r => .refuse p2 r
    | none =>
      match tapJudge s.taps t rc now s.station.landing.passback with
      | some r => .refuse p2 r
      | none => .pass { token := t, time := now, base := s.now, roleClass := rc, line := line, product := product }

/-- Checks 1 to 7 in order (R109 to R114). -/
def State.judgeTap (s : State) (l : LaneId) (t : TokenRecord) : TapJudgement :=
  let p := s.tapProgress l t
  match roleClassOf (s.lane l).role with
  | none => .refuse p .notServing
  | some rc =>
    if (s.lane l).cond.blocked then .refuse p .laneBlocked
    else if laneBusy (s.lane l).entries then .refuse p .laneBusy
    else
      match s.clock.calendar with
      | none => .refuse p .clockUnset
      | some now =>
        match s.currentLine l with
        | .error r => .refuse p r
        | .ok line => s.judgeToken l t rc now line

/-- A lookup queued: the context waits with its verdict deadline (R115, R152), and the port takes the request (R178). -/
def State.queueLookup (s : State) (l : LaneId) (e : Evaluation) : State :=
  ((s.withDeny { s.deny with queue := s.deny.queue ++ [newLookup l e.token.id] }).arbitrate).updLane l fun x =>
    { x with ctx := .waiting e (e.base + x.settings.verdictDeadline) }

/-- Check 8 (R115): the fail policy under NO_LIST, on at once with the bit clear, a lookup with the bit set. -/
def State.denyCheck (s : State) (l : LaneId) (e : Evaluation) : State :=
  match s.deny.filterTest e.token.id with
  | .noList => s.applyPolicy l e
  | .bitClear => s.decideClaims l e .clear
  | .bitSet => s.queueLookup l e

/-- The new evaluation of a TAP (R108). -/
def State.startEvaluation (s : State) (l : LaneId) (t : TokenRecord) : State :=
  match s.judgeTap l t with
  | .refuse p r => s.decideRefuse l p r none
  | .pass e => s.denyCheck l e

/-- A valid TAP taken (R44, R45): "taps" rises, STARTED is the reply, the context is cleared, an evaluation starts. -/
def State.takeTap (s : State) (l : LaneId) (t : TokenRecord) : State :=
  let s1 := s.updLane l fun x =>
    { x with stats := { x.stats with taps := bump x.stats.taps }, reply := some .tapStarted }
  (s1.clearForTap l).startEvaluation l t

/-- TAP (R44, R224). -/
def execTap (l : LaneId) (fields : List Byte) (s : State) : Host.Outcome State Fault Refusal :=
  .next (s.onLane l fun s =>
    match decodeToken fields with
    | none => (s.countLane l LaneStats.badFrame).replyLane l (some .tapBadToken)
    | some t => s.takeTap l t)

/-! ## TAKE, WROTE, LANE_STATUS, bad and unknown frames -/

/-- TAKE (R50 to R52): held in WAITING_LIST, otherwise answered. -/
def execTake (l : LaneId) (s : State) : Host.Outcome State Fault Refusal :=
  .next (s.onLane l fun s =>
    match (s.lane l).ctx with
    | .waiting _ _ => s.updLane l fun x => { x with takeHeld := true, reply := none }
    | .free | .offer _ | .refused _ => s.updLane l fun x => x.answerTake s.now)

/-- Whether an entry is in AWAIT_WRITE. -/
def Entry.awaitsWrite (e : Entry) : Bool := decide (e.phase = .awaitWrite)

/-- An entry moved to AWAIT_PASSAGE (R57, R59). -/
def Entry.toPassage (e : Entry) (confirmation : Confirmation) (deadline : Nat) : Entry :=
  { e with phase := .awaitPassage, confirmation := confirmation, deadline := deadline }

/-- The first entry that passes `p` changed; the order stands. -/
def replaceFirst (p : Entry → Bool) (f : Entry → Entry) : List Entry → List Entry
  | [] => []
  | e :: rest => if p e then f e :: rest else e :: replaceFirst p f rest

/-- The lane's AWAIT_WRITE entry moved to AWAIT_PASSAGE, its passage deadline one passage timeout ahead (R57, R59). -/
def Lane.writeEnded (x : Lane) (confirmation : Confirmation) (now : Nat) : Lane :=
  { x with entries := replaceFirst Entry.awaitsWrite
             (fun e => e.toPassage confirmation (now + x.settings.passageTimeout * 1000)) x.entries }

/-- WROTE ok (R56, R57). -/
def execWroteOk (l : LaneId) (s : State) : Host.Outcome State Fault Refusal :=
  .next (s.onLane l fun s =>
    match (s.lane l).entries.find? Entry.awaitsWrite with
    | none => s.replyLane l (some .wroteNothingPending)
    | some _ => s.updLane l fun x => { x.writeEnded .confirmed s.now with reply := some .wroteOk })

/-- WROTE failed (R56, R58). -/
def execWroteFailed (l : LaneId) (s : State) : Host.Outcome State Fault Refusal :=
  .next (s.onLane l fun s =>
    match (s.lane l).entries.find? Entry.awaitsWrite with
    | none => s.replyLane l (some .wroteNothingPending)
    | some e =>
      (s.voidEntry l e ((s.lane l).entries.eraseP Entry.awaitsWrite) .writeFailed).replyLane l (some .wroteOk))

/-- The phase of a context as it is reported (R66). -/
def Context.phase : Context → ContextPhase
  | .free => .free
  | .waiting _ _ => .waitingList
  | .offer _ => .decidedOffer
  | .refused _ => .decidedRefuse

/-- The STATUS_REPLY of a lane (R66). -/
def Lane.statusReply (x : Lane) : LaneReply :=
  .status x.role x.cond.level x.cond.blocked x.ctx.phase
    (x.entries.map fun e => { phase := e.phase, confirmation := e.confirmation, tokenId := e.tokenId })

/-- LANE_STATUS (R66): it changes nothing but the reply. -/
def execLaneStatus (l : LaneId) (s : State) : Host.Outcome State Fault Refusal :=
  .next (s.onLane l fun s => s.replyLane l (some (s.lane l).statusReply))

/-- A bad lane frame (R42). -/
def execLaneBadFrame (l : LaneId) (s : State) : Host.Outcome State Fault Refusal :=
  .next (s.onLane l fun s => (s.countLane l LaneStats.badFrame).replyLane l (some .badFrame))

/-- A good lane frame of an unknown kind (R42). -/
def execLaneUnknownMessage (l : LaneId) (s : State) : Host.Outcome State Fault Refusal :=
  .next (s.onLane l fun s => s.replyLane l (some .unknownMessage))

end Sys2Proof.Machine
end

