-- ==== Sys2Proof/Machine/LaneTimers.lean ====
section
/-!
DEFINITION. The timers of the lanes and of the calendar (R47, R59, R60, R85, R118).
-/
namespace Sys2Proof.Machine

/-- VERDICT_DEADLINE (R118): the lookup withdrawn, "deadline decisions" raised, the fail policy applied. -/
def execVerdictDeadline (l : LaneId) (s : State) : Host.Outcome State Fault Refusal :=
  .next (s.whenRunning fun s =>
    match (s.lane l).ctx with
    | .waiting e deadline =>
      if deadline ≤ s.now then
        ((s.withdrawLookup l).countLane l fun x =>
          { x with deadlineDecisions := bump x.deadlineDecisions }).applyPolicy l e
      else s
    | .free | .offer _ | .refused _ => s)

/-- TAKE_DEADLINE (R47): the offer dropped. -/
def execTakeDeadline (l : LaneId) (s : State) : Host.Outcome State Fault Refusal :=
  .next (s.whenRunning fun s =>
    match (s.lane l).ctx with
    | .offer o => if s.reached (s.lane l).takeDeadline then s.dropOffer l o else s
    | .free | .waiting _ _ | .refused _ => s)

/-- WRITE_DEADLINE (R59): the AWAIT_WRITE entry moves to AWAIT_PASSAGE, UNCONFIRMED. -/
def execWriteDeadline (l : LaneId) (s : State) : Host.Outcome State Fault Refusal :=
  .next (s.whenRunning fun s =>
    match (s.lane l).entries.find? Entry.awaitsWrite with
    | some e => if e.deadline ≤ s.now then s.updLane l fun x => x.writeEnded .unconfirmed s.now else s
    | none => s)

/-- The older or the younger entry of a list, with the list without it. -/
def pickEntry : WhichEntry → List Entry → Option (Entry × List Entry)
  | .older, e :: rest => some (e, rest)
  | .younger, e :: f :: rest => some (f, e :: rest)
  | _, _ => none

/-- PASSAGE_DEADLINE (R60): the entry voided with reason NO_PASSAGE. -/
def execPassageDeadline (l : LaneId) (which : WhichEntry) (s : State) : Host.Outcome State Fault Refusal :=
  .next (s.whenRunning fun s =>
    match pickEntry which (s.lane l).entries with
    | some (e, rest) =>
      if e.phase = .awaitPassage ∧ e.deadline ≤ s.now then s.voidEntry l e rest .noPassage else s
    | none => s)

/-- The clock with one due second taken (R85): the calendar stops at its last second, with the phase at 0. -/
def Clock.takeSecond (c : Clock) (t : CalTime) : Clock :=
  if t.next = lastCalTime then { c with calendar := some t.next, phase := 0, secondsDue := 0 }
  else { c with calendar := some t.next, secondsDue := c.secondsDue - 1 }

/-- CALENDAR_SECOND (R85): a due second is taken; the second rises, and at rollover the day, which is handed to the
recent-tap table. It goes on while the part is held in reset or restarts (R216, R218). -/
def execCalendarSecond (s : State) : Host.Outcome State Fault Refusal :=
  .next (
    match s.clock.calendar with
    | some t =>
      if 0 < s.clock.secondsDue then
        let s1 := s.withClock (s.clock.takeSecond t)
        if t.next.day = t.day then s1 else s1.handDay t.next.day
      else s
    | none => s)

end Sys2Proof.Machine
end

