-- ==== Sys2Proof/Machine/Passage.lean ====
section
/-!
DEFINITION. Passage sensing: debounce, occupancy, BLOCKED, and what a passage does on each role (R70 to R83).
-/
namespace Sys2Proof.Machine

/-- The time from occupancy to BLOCKED: 60 s (R72). -/
def blockedMs : Nat := 60000

/-! ## What a passage does -/

/-- The content of a BOARD or ENTRY record (R78). -/
def Entry.commitContent (e : Entry) (l : LaneId) (time : Option CalTime) : CommitContent :=
  { time := time, lane := l, tokenId := e.tokenId, page := e.page, index := e.index, fareClass := e.fareClass,
    charge := e.charge, confirmation := e.confirmation, flags := e.flags }

/-- The record of a commit: BOARD on a boarding lane, ENTRY on an ENTRY lane (R78). -/
def Entry.commitRecord (e : Entry) (l : LaneId) (time : Option CalTime) : Content :=
  match e.berth with
  | some b => .board b (e.commitContent l time)
  | none => .entry (e.commitContent l time)

/-- The calendar time of a commit; free while the calendar is NOT_SET, which R137 says does not arise (log 21). -/
def commitTime (calendar : Option CalTime) : CalTime :=
  calendar.getD { day := Config.unsetDay, second := Config.unsetSecond }

/-- The last admission a commit hands the recent-tap table (R79). -/
def Entry.tableAdmission (e : Entry) (l : LaneId) (calendar : Option CalTime) (homeLine : Nat) : TableAdmission :=
  { time := commitTime calendar, lane := l, berth := e.berth, line := e.line.getD homeLine,
    roleClass := if e.berth.isSome then .board else .entry }

/-- A commit (R78): the record into the entry's slot, the use committed, the commit sent to the berth. -/
def State.commitEntry (s : State) (l : LaneId) (e : Entry) (rest : List Entry) : State :=
  let s1 := s.updLane l fun x =>
    { x with entries := rest, stats := { x.stats with committed := bump x.stats.committed } }
  let s2 := s1.appendReserved (e.commitRecord l s.clock.calendar)
  let s3 := s2.withTaps (tapCommit s2.taps e.tokenId
    (e.tableAdmission l s.clock.calendar (s.lane l).settings.homeLine) s.now)
  s3.sendHolding e.berth l .commit

/-- "Stray passages" raised by one (R29, R30). -/
def State.strayPassage (s : State) : State := s.count fun x => { x with strayPassages := bump x.strayPassages }

/-- A tailgate or alight passage at a berth: the call changed, or a stray passage in VACANT (R29, R30). -/
def State.passAtBerth (s : State) (b : BerthId) (f : Call → Call) : State :=
  match s.call b with
  | some c => s.setCall b (some (f c))
  | none => s.strayPassage

/-- A tailgate (R80): the TAILGATE record, the lane's count, the berth. -/
def State.tailgate (s : State) (l : LaneId) : State :=
  let s1 := s.appendUnreserved (.tailgate s.clock.calendar l (s.lane l).role.boards)
  let s2 := s1.countLane l fun x => { x with tailgates := bump x.tailgates }
  match (s.lane l).role.boards with
  | some b => s2.passAtBerth b Call.tailgate
  | none => s2

/-- Whether an entry is in AWAIT_PASSAGE. -/
def Entry.awaitsPassage (e : Entry) : Bool := decide (e.phase = .awaitPassage)

/-- A passage matched against the lane's list (R77): it commits the oldest entry in AWAIT_PASSAGE, or is a tailgate. -/
def State.matchPassage (s : State) (l : LaneId) : State :=
  match (s.lane l).entries.find? Entry.awaitsPassage with
  | some e => s.commitEntry l e ((s.lane l).entries.eraseP Entry.awaitsPassage)
  | none => s.tailgate l

/-- A passage taken under the lane's role (R76). -/
def State.takePassage (s : State) (l : LaneId) : State :=
  match (s.lane l).role with
  | .off => s
  | .alightA => s.passAtBerth .berthA Call.alight
  | .alightB => s.passAtBerth .berthB Call.alight
  | .entry | .boardA | .boardB => s.matchPassage l

/-! ## The conditioner -/

/-- A change of the raw level at the conditioner (R71). -/
def Conditioner.rawChange (c : Conditioner) (level : Level) (now debounce : Nat) : Conditioner :=
  { c with raw := level, debounceDeadline := if level = c.level then none else some (now + debounce) }

/-- Whether the conditioners follow the raw lines: the part runs, or a warm restart is past its step 4, where they
started afresh and go on from there (R83, R219). -/
def State.sensing (s : State) : Bool :=
  match s.keep.run with
  | .running | .warmRestart .record | .warmRestart .finish => true
  | _ => false

/-- RAW_LEVEL_CHANGE (R71): the line's level is a pin and follows in every condition of the part; the conditioner takes
the change while it follows its line (R216, R219). A level equal to the line's is no change. -/
def execRawLevelChange (l : LaneId) (level : Level) (s : State) : Host.Outcome State Fault Refusal :=
  .next (
    if level = (s.lane l).cond.raw then s
    else if s.sensing then
      s.updLane l fun x => { x with cond := x.cond.rawChange level s.now x.settings.debounce }
    else s.updLane l fun x => { x with cond := { x.cond with raw := level } })

/-- An accepted change to OCCUPIED (R72). -/
def Conditioner.acceptOccupied (c : Conditioner) (now : Nat) : Conditioner :=
  { c with level := .occupied, debounceDeadline := none, occupiedSince := some now,
           blockedDeadline := some (now + blockedMs) }

/-- An accepted change to CLEAR (R73). -/
def Conditioner.acceptClear (c : Conditioner) : Conditioner :=
  { c with level := .clear, debounceDeadline := none, occupiedSince := none, blockedDeadline := none,
           blocked := false }

/-- DEBOUNCE_DEADLINE (R71 to R76): the debounced level becomes the raw level; a change to CLEAR is a passage unless
BLOCKED was set. -/
def execDebounceDeadline (l : LaneId) (s : State) : Host.Outcome State Fault Refusal :=
  .next (s.whenRunning fun s =>
    if s.reached (s.lane l).cond.debounceDeadline then
      match (s.lane l).cond.raw with
      | .occupied => s.updLane l fun x => { x with cond := x.cond.acceptOccupied s.now }
      | .clear =>
        let s1 := s.updLane l fun x => { x with cond := x.cond.acceptClear }
        if (s.lane l).cond.blocked then s1.latchLaneFault else s1.takePassage l
    else s)

/-- BLOCKED_DEADLINE (R74). -/
def execBlockedDeadline (l : LaneId) (s : State) : Host.Outcome State Fault Refusal :=
  .next (s.whenRunning fun s =>
    if s.reached (s.lane l).cond.blockedDeadline then
      (s.updLane l fun x =>
        { x with cond := { x.cond with blocked := true, blockedDeadline := none } }).latchLaneFault
    else s)

end Sys2Proof.Machine
end

