-- ==== Sys2Proof/Machine/StationPort.lean ====
section
/-!
DEFINITION. The station port's transfers (R202 to R205, R214): what a transfer shifts out, and how a command's answer
becomes the pending reply; and the transfers that reach no owner (empty, bad, unknown command).
-/
namespace Sys2Proof.Machine

/-- An owner's answer to a command (R204). -/
inductive Answer where
  | ok (data : StationData)
  | refused (reason : StationReason) (data : StationData)
deriving DecidableEq, Repr

/-- The reply an answer becomes: it names the command (R204). -/
def Answer.reply (a : Answer) (cmd : Command) : StationReply :=
  match a with
  | .ok data => .ok cmd data
  | .refused reason data => .refused cmd reason data

/-- A refusal with no data. -/
def Answer.no (reason : StationReason) : Answer := .refused reason .nothing

/-- An OK with no data. -/
def Answer.yes : Answer := .ok .nothing

/-- The pending reply shifted out, NONE when absent; it becomes absent (R202 step 1). -/
def State.collect (s : State) : State :=
  s.withStation { s.station with shiftedOut := some (s.station.pendingReply.getD .none), pendingReply := none }

/-- The pending reply formed (R202 step 3). -/
def State.setReply (s : State) (r : StationReply) : State :=
  s.withStation { s.station with pendingReply := some r }

/-- What `n` bytes clocked in the latest transfer shifted out (R202). -/
def State.dataOut (s : State) (n : Nat) : List Byte :=
  match s.station.shiftedOut with
  | some r => r.shifted n
  | none => []

/-- A transfer at the station port: taken by a part that runs; in a hold and in a restart it shifts out idle bytes and its
command is discarded (R214, R216, R219, log 26). -/
def State.onTransfer (s : State) (f : State → State) : State :=
  match s.keep.run with
  | .running => f s.collect
  | .held _ | .warmRestart _ | .coldStart _ => s.withStation { s.station with shiftedOut := some .idle }

/-- A good frame of a known command: misshapen, it is refused BAD_ARGUMENT (R203 step 4); otherwise its owner takes it
and its answer is the pending reply. -/
def State.onStation {α : Type} (s : State) (cmd : Command) (fields : Fields α) (f : α → State → State × Answer) :
    State :=
  s.onTransfer fun s =>
    match fields with
    | .misfit => s.setReply ((Answer.no .badArgument).reply cmd)
    | .fit a => (f a s).1.setReply ((f a s).2.reply cmd)

/-- The lane an argument names, or BAD_ARGUMENT (R205). -/
def onLaneCode (code : Nat) (s : State) (f : LaneId → State × Answer) : State × Answer :=
  match LaneId.ofCode code with
  | some l => f l
  | none => (s, .no .badArgument)

/-- The berth an argument names, or BAD_ARGUMENT (R205). -/
def onBerthCode (code : Nat) (s : State) (f : BerthId → State × Answer) : State × Answer :=
  match BerthId.ofCode code with
  | some b => f b
  | none => (s, .no .badArgument)

/-- An empty transfer: the pending reply is collected and none is formed (R203 step 1). -/
def execEmptyFrame (s : State) : Host.Outcome State Fault Refusal := .next (s.onTransfer fun s => s)

/-- A bad station frame: BAD_FRAME (R203 step 2). -/
def execStationBadFrame (s : State) : Host.Outcome State Fault Refusal :=
  .next (s.onTransfer fun s => s.setReply .badFrame)

/-- A good station frame of an unknown kind: REFUSED UNKNOWN_COMMAND (R203 step 3). -/
def execStationUnknownCommand (kind : Byte) (s : State) : Host.Outcome State Fault Refusal :=
  .next (s.onTransfer fun s => s.setReply ((Answer.no .unknownCommand).reply (.unknown kind)))

end Sys2Proof.Machine
end

