-- ==== Sys2Proof/Machine/Restart.lean ====
section
/-!
DEFINITION. Resets, the hold, the judgement and the warm restart (R68, R144, R170, R186, R200, R201, R214 to R219), the
reset and supply events, and RESTART.
-/
namespace Sys2Proof.Machine

/-! ## The warm restart, step by step (R218) -/

/-- A context in WAITING_LIST made FREE (R129). -/
def Context.abandonWaiting : Context → Context
  | .waiting _ _ => .free
  | c => c

/-- A REFUSE discarded (R68, R129). -/
def Context.discardRefuse : Context → Context
  | .refused _ => .free
  | c => c

/-- The pending reply made absent (R214). -/
def State.dropReply (s : State) : State := s.withStation { s.station with pendingReply := none }

/-- The transfers and transactions in progress abandoned (R51, R214, R216). -/
def State.abandonLinks (s : State) : State := s.dropReply.withLanes (s.lanes.map Lane.abandonTake)

/-- Step 1: the work in flight stopped (R129, R170, R186, R214). -/
def State.stopWork (s : State) : State :=
  let s1 := s.abandonLinks
  let s2 := s1.withLanes (s1.lanes.map fun x => { x with ctx := x.ctx.abandonWaiting })
  (s2.withDeny { s.deny with queue := [] }).withPort s.port.stopped

/-- Step 2: the calls suspended (R38). -/
def State.suspendCalls (s : State) : State :=
  let f := fun c : Call => c.restarted s.now s.station.landing.closingGrace
  (s.updCall .berthA f).updCall .berthB f

/-- The lanes' offers dropped and entries voided, lanes in order (R68, log 22). -/
def State.endEveryHolding (s : State) : List LaneId → State
  | [] => s
  | l :: rest => (s.endHoldings l .restart).endEveryHolding rest

/-- Step 3: the holdings ended, at the lanes, the berths (log 9) and the recent-tap table (R68, R144). -/
def State.endRestartHoldings (s : State) : State :=
  let s1 := s.endEveryHolding LaneId.list
  let s2 := s1.withLanes (s1.lanes.map fun x => { x with ctx := x.ctx.discardRefuse })
  let s3 := (s2.takeAllInFlight .berthA).takeAllInFlight .berthB
  s3.withTaps (tapRestart s3.taps)

/-- Step 4: the conditioners, the deny list unit and the settings store restarted; LIST_DONE and SETTINGS_DONE where
something was interrupted (R83, R170, R186). -/
def State.restartRest (s : State) : State :=
  let s1 := s.withLanes (s.lanes.map fun x => x.startConditioner s.now)
  let s2 := (s1.withDeny s.deny.restarted).withPort (s.port.restarted s.deny.rebuild.isSome)
  let s3 := if s.deny.unfinished then s2.latchListDone else s2
  if s.port.store = .storing then s3.latchSettingsDone else s3

/-- Step 5: the RESTART record with the cause and the calendar (R201), after the appends asked for before (log 34). -/
def State.recordRestart (s : State) : State :=
  s.takeAsked.appendUnreserved (.restart s.clock.calendar s.keep.resetCause)

/-- A change of day made during the hold or the restart handed to the recent-tap table, with the day standing
(R216). -/
def State.handWaitingDay (s : State) : State :=
  match s.keep.dayChange, s.clock.calendar with
  | true, some t => s.withTaps (tapUnpin s.taps t.day)
  | _, _ => s

/-- Step 6: the end of the restart (R214, R216, R217). A port whose reset operation has ended meanwhile decides its grant
(R178, R186). -/
def State.endRestart (s : State) : State :=
  ((s.handWaitingDay.withKeep
    { s.keep with run := .running, mark := .unmarked, dayChange := false }).latchRestarted).arbitrate

/-- The part in a warm restart, before a step of R218. -/
def State.warmStage (s : State) (next : WarmStage) : State := s.withKeep { s.keep with run := .warmRestart next }

/-- One step of R218 taken. -/
def State.warmStep (s : State) : WarmStage → State
  | .suspendCalls => s.suspendCalls.warmStage .endHoldings
  | .endHoldings => s.endRestartHoldings.warmStage .restartRest
  | .restartRest => s.restartRest.warmStage .record
  | .record => s.recordRestart.warmStage .finish
  | .finish => s.endRestart

/-- The judgement for a warm restart: the cause set, the latch cleared, the mark WARM (R215, R217). -/
def State.judgeWarm (s : State) (cause : ResetCause) : State :=
  s.withKeep { s.keep with resetCause := cause, latch := false, mark := .warm }

/-- A warm restart with kept state valid begins: judged, and step 1 taken (R217, R218). The other steps are taken one
after another by the step on an empty queue, so that events may fall between them (R219, log 14). -/
def State.beginWarm (s : State) (cause : ResetCause) : State :=
  (s.judgeWarm cause).stopWork.warmStage .suspendCalls

/-! ## The judgement and the hold -/

/-- Whether the kept state is judged valid (R217). -/
def Keep.valid (k : Keep) (begun : ResetCause) : Bool :=
  decide (begun ≠ .powerOn) && !k.latch && decide (k.mark ≠ .cold)

/-- A restart begins: judged, and taken warm or cold (R215, R217). -/
def State.beginRestart (s : State) (begun : ResetCause) : State :=
  if s.keep.valid begun then s.beginWarm begun
  else s.beginCold (if begun = .powerOn then .powerOn else .keepLost)

/-- The part held in reset (R216): a reset already held keeps the reset it will begin (log 15), and a restart is
abandoned where it stands, its mark with it (R219). -/
def State.enterHold (s : State) : State :=
  match s.keep.run with
  | .held _ => s
  | .running | .warmRestart _ | .coldStart _ => (s.abandonLinks).withKeep { s.keep with run := .held .resetLine }

/-- The restart at the release, once neither the reset input nor the core supply holds the part (R215, R216, log 15). -/
def State.release (s : State) : State :=
  match s.keep.run with
  | .held begun => if !s.keep.resetInput && s.keep.coreUp then s.beginRestart begun else s
  | .running | .warmRestart _ | .coldStart _ => s

/-- RESET_INPUT_ASSERT (R215, R216). -/
def execResetInputAssert (s : State) : Host.Outcome State Fault Refusal :=
  .next (if s.keep.resetInput then s else s.enterHold.withKeep { s.enterHold.keep with resetInput := true })

/-- RESET_INPUT_RELEASE (R216). -/
def execResetInputRelease (s : State) : Host.Outcome State Fault Refusal :=
  .next (if s.keep.resetInput then (s.withKeep { s.keep with resetInput := false }).release else s)

/-- CORE_SUPPLY_RISE (R215): with the retention supply low the reset begun is a cold one, otherwise it acts as the
release of the reset input. -/
def execCoreSupplyRise (retentionLow : Bool) (s : State) : Host.Outcome State Fault Refusal :=
  .next (
    if s.keep.coreUp then s
    else
      (s.withKeep { s.keep with coreUp := true,
                                run := if retentionLow then .held .powerOn else s.keep.run }).release)

/-- CORE_SUPPLY_FALL (R215): it acts as an assertion of the reset input. -/
def execCoreSupplyFall (s : State) : Host.Outcome State Fault Refusal :=
  .next (if s.keep.coreUp then s.enterHold.withKeep { s.enterHold.keep with coreUp := false } else s)

/-- RETENTION_SUPPLY_DIP (R217): the latch is set, at any time. -/
def execRetentionSupplyDip (s : State) : Host.Outcome State Fault Refusal :=
  .next (s.withKeep { s.keep with latch := true })

/-- FLASH_READY_TIMEOUT (R220 step 2): the start-up reads are not made. The reset operation stays in progress (log
20). -/
def execFlashReadyTimeout (s : State) : Host.Outcome State Fault Refusal :=
  .next (
    match s.keep.run with
    | .coldStart (.flashReset waited) =>
      if flashReadyMs ≤ waited then s.finishUnread s.port.op else s
    | _ => s)

/-- RESTART (R206): misshapen, it is refused BAD_ARGUMENT; otherwise no reply is formed and the warm reset begins. -/
def execRestart (fields : Fields Unit) (s : State) : Host.Outcome State Fault Refusal :=
  .next (s.onTransfer fun s =>
    match fields with
    | .misfit => s.setReply ((Answer.no .badArgument).reply .restart)
    | .fit _ => s.beginRestart .stationRestart)

/-! ## The step on an empty queue -/

/-- What comes about while no command waits (log 2): one millisecond passes; the log takes the appends asked for (log
34), and a warm restart takes its next step (log 14). In a cold start the time base stands at 0 and the wait for the
flash counts (R220, log 13). -/
def State.tick (s : State) : State :=
  match s.keep.run with
  | .running => s.passTime.takeAsked
  | .held _ => s.passTime
  | .warmRestart next => s.passTime.warmStep next
  | .coldStart (.flashReset waited) => s.withKeep { s.keep with run := .coldStart (.flashReset (waited + 1)) }
  | .coldStart _ => s

end Sys2Proof.Machine
end

