-- ==== Sys2Proof/Machine/StationBerths.lean ====
section
/-!
DEFINITION. The station's commands on a berth and on a lane (R32 to R36, R65).
-/
namespace Sys2Proof.Machine

/-- STAGE_PLAN (R32). -/
def execStagePlan (fields : Fields PlanArgs) (s : State) : Host.Outcome State Fault Refusal :=
  .next (s.onStation .stagePlan fields fun a s =>
    onBerthCode a.berth s fun b =>
      if planValid a.plan then (s.setPlan b (some a.plan), .yes) else (s, .no .badArgument))

/-- CANCEL_PLAN (R32). -/
def execCancelPlan (fields : Fields Nat) (s : State) : Host.Outcome State Fault Refusal :=
  .next (s.onStation .cancelPlan fields fun code s => onBerthCode code s fun b => (s.setPlan b none, .yes))

/-- SET_CAP at a berth (R33). DESIGN CHOICE (log 31): a cap outside 1 to 900 at a VACANT berth is refused BAD_ARGUMENT;
R33 names BAD_ARGUMENT and WRONG_STATE and gives no order. -/
def State.takeSetCap (s : State) (b : BerthId) (cap : Nat) : State × Answer :=
  if within 1 900 cap then
    match s.call b with
    | none => (s, .no .wrongState)
    | some c => (s.setCall b (some (c.setCap cap)), .ok (.cap (c.setCap cap).effectiveCap))
  else (s, .no .badArgument)

/-- SET_CAP (R33). -/
def execSetCap (fields : Fields CapArgs) (s : State) : Host.Outcome State Fault Refusal :=
  .next (s.onStation .setCap fields fun a s => onBerthCode a.berth s fun b => s.takeSetCap b a.cap)

/-- A suspended call's prior state made CLOSING, with its closing deadline, whatever is reserved (R34). -/
def Call.closeSuspended (c : Call) (now default : Nat) : Call :=
  { c with stage := .closing, closingDeadline := some (now + c.graceMs default) }

/-- CLOSE_BERTH at a berth (R16, R34). DESIGN CHOICE (log 32): taken in SUSPENDED it is answered OK with state SUSPENDED;
R34 gives the resulting state of the reply for ALIGHTING and BOARDING only. -/
def State.takeClose (s : State) (b : BerthId) : State × Answer :=
  match s.call b with
  | none => (s, .no .wrongState)
  | some c =>
    match c.stage with
    | .closing | .handover => (s, .no .wrongState)
    | .alighting | .boarding =>
      let grace := s.station.landing.closingGrace
      let c1 := if c.suspended then c.closeSuspended s.now grace else c.close s.now grace
      (s.setCall b (some c1), .ok (.berthState (callState (some c1))))

/-- CLOSE_BERTH (R34). -/
def execCloseBerth (fields : Fields Nat) (s : State) : Host.Outcome State Fault Refusal :=
  .next (s.onStation .closeBerth fields fun code s => onBerthCode code s fun b => s.takeClose b)

/-- REOPEN_BERTH at a berth (R35). -/
def State.takeReopen (s : State) (b : BerthId) : State × Answer :=
  match s.call b with
  | none => (s, .no .wrongState)
  | some c =>
    match c.stage with
    | .closing => (s.setCall b (some { c with stage := .boarding, closingDeadline := none }), .yes)
    | .alighting | .boarding | .handover => (s, .no .wrongState)

/-- REOPEN_BERTH (R35). -/
def execReopenBerth (fields : Fields Nat) (s : State) : Host.Outcome State Fault Refusal :=
  .next (s.onStation .reopenBerth fields fun code s => onBerthCode code s fun b => s.takeReopen b)

/-- FORCE_VACATE at a berth (R36). -/
def State.takeVacate (s : State) (b : BerthId) : State × Answer :=
  match s.call b with
  | none => (s, .no .wrongState)
  | some _ => ((s.releaseHoldings b .forced).endCall b true, .ok (.berthState .vacant))

/-- FORCE_VACATE (R36). -/
def execForceVacate (fields : Fields Nat) (s : State) : Host.Outcome State Fault Refusal :=
  .next (s.onStation .forceVacate fields fun code s => onBerthCode code s fun b => s.takeVacate b)

/-- Step 1 of LANE_CLEAR (R65): the context made FREE, a held TAKE answered NO_VERDICT. -/
def State.clearContext (s : State) (l : LaneId) : State :=
  match (s.lane l).ctx with
  | .free => s
  | .waiting _ _ => (s.cancelEvaluation l).settle l
  | .offer o => s.dropOffer l o
  | .refused _ => s.setContext l .free

/-- Whether a context holds an offer. -/
def Context.isOffer : Context → Bool
  | .offer _ => true
  | .free | .waiting _ _ | .refused _ => false

/-- LANE_CLEAR at a lane (R65). -/
def State.takeClear (s : State) (l : LaneId) : State × Answer :=
  ((s.clearContext l).voidAll l .cleared, .ok (.cleared (s.lane l).entries.length (s.lane l).ctx.isOffer))

/-- LANE_CLEAR (R65). -/
def execLaneClear (fields : Fields Nat) (s : State) : Host.Outcome State Fault Refusal :=
  .next (s.onStation .laneClear fields fun code s => onLaneCode code s fun l => s.takeClear l)

end Sys2Proof.Machine
end

