-- ==== Sys2Proof/Machine/StationList.lean ====
section
/-!
DEFINITION. The deny list commands LIST_BEGIN, LIST_ADD, LIST_COMMIT (R157, R160, R161, R163).
-/
namespace Sys2Proof.Machine

/-- LIST_BEGIN at the unit (R157). -/
def State.takeListBegin (s : State) : State × Answer :=
  match s.deny.standby with
  | .erasing | .opened | .committing => (s, .no .wrongState)
  | .stale | .fault =>
    if s.deny.standbyHeld || s.port.job.isSome then (s, .no .busy)
    else ((s.withDeny s.deny.begin).createJob (.listErase 0), .yes)

/-- LIST_BEGIN (R157). -/
def execListBegin (fields : Fields Unit) (s : State) : Host.Outcome State Fault Refusal :=
  .next (s.onStation .listBegin fields fun _ s => s.takeListBegin)

/-- The entries of a LIST_ADD taken by the writer (R160, R161). -/
def State.addToList (s : State) (es : List DenyEntry) : State × Answer :=
  let r := addEntries s.port.job.isSome s.deny none 0 es
  let s1 := s.withDeny r.unit
  let s2 := match r.flush with
    | some j => s1.createJob j
    | none => s1
  match r.ending with
  | .taken => (s2, .ok (.taken r.count))
  | .refused reason => (s2, .refused reason (.taken r.count))
  | .wholeBusy => (s, .refused .busy (.taken 0))

/-- LIST_ADD (R160, R161). DESIGN CHOICE (log 37): a bad count or entry outside OPEN is refused WRONG_STATE; R160 names
WRONG_STATE and BAD_ARGUMENT and gives no order. -/
def execListAdd (fields : Fields (List AddEntry)) (s : State) : Host.Outcome State Fault Refusal :=
  .next (s.onStation .listAdd fields fun entries s =>
    if s.deny.standby = .opened then
      match addEntriesOf entries with
      | some es => s.addToList es
      | none => (s, .no .badArgument)
    else (s, .no .wrongState))

/-- The closing flush a commit starts with, when the buffer holds entries (R164 step 1). -/
def DenyUnit.closingFlush (d : DenyUnit) : Option (Nat × DenyPage) :=
  d.buffer.map fun buf => (buf.target, { entries := buf.entries, next := none })

/-- The highest generation (R149, R163). -/
def lastGeneration : Nat := 4294967295

/-- LIST_COMMIT at the unit (R163, R164). -/
def State.takeListCommit (s : State) : State × Answer :=
  if s.deny.standby ≠ .opened then (s, .no .wrongState)
  else if s.deny.generation = lastGeneration then (s, .no .generationLimit)
  else if s.port.job.isSome then (s, .no .busy)
  else
    ((s.withDeny (s.deny.emptyBuffer.setStandby .committing)).createJob (.commit s.deny.closingFlush), .yes)

/-- LIST_COMMIT (R163). -/
def execListCommit (fields : Fields Unit) (s : State) : Host.Outcome State Fault Refusal :=
  .next (s.onStation .listCommit fields fun _ s => s.takeListCommit)

end Sys2Proof.Machine
end

