-- ==== Sys2Proof/Machine/StationLog.lean ====
section
/-!
DEFINITION. LOG_PEEK and LOG_DROP (R196, R197).
-/
namespace Sys2Proof.Machine

/-- LOG_PEEK (R196, R228): it changes nothing. -/
def execLogPeek (fields : Fields Nat) (s : State) : Host.Outcome State Fault Refusal :=
  .next (s.onStation .logPeek fields fun k s =>
    (s, if within 1 8 k then
          .ok (.records s.log.records.length s.log.reserve ((s.log.records.take k).map recordBytes))
        else .no .badArgument))

/-- Step 2 of R197: an expected sequence that is not the oldest record's. -/
def TripLog.wrongSequence (g : TripLog) : Option (BitVec 16) → Bool
  | some expected => decide (g.oldestSeq ≠ some expected)
  | none => false

/-- LOG_DROP at the log (R197). -/
def State.takeDrop (s : State) (a : DropArgs) : State × Answer :=
  if within 1 1024 a.k && decide (a.k ≤ s.log.records.length) then
    if s.log.wrongSequence a.expected then (s, .no .wrongSequence)
    else (s.withLog (s.log.drop a.k), .ok (.dropped (s.log.drop a.k).records.length (s.log.drop a.k).oldestSeq))
  else (s, .no .badArgument)

/-- LOG_DROP (R197). -/
def execLogDrop (fields : Fields DropArgs) (s : State) : Host.Outcome State Fault Refusal :=
  .next (s.onStation .logDrop fields fun a s => s.takeDrop a)

end Sys2Proof.Machine
end

