-- ==== Sys2Proof/Machine/StationSettings.lean ====
section
/-!
DEFINITION. The clock, lane, landing and fare settings and their store (R41, R86, R104 to R106, R184, R207).
-/
namespace Sys2Proof.Machine

/-- SET_CLOCK at the clock and keep unit (R86). -/
def State.takeSetClock (s : State) (a : ClockArgs) : State × Answer :=
  if within 0 65535 a.day && within 0 86399 a.second then
    let t : CalTime := { day := a.day, second := a.second }
    let s1 := s.withClock { timeBase := s.clock.timeBase, calendar := some t, phase := 0, secondsDue := 0 }
    let s2 := if s.clock.calendar.map (·.day) = some t.day then s1 else s1.handDay t.day
    (s2.appendUnreserved (.clockSet s.clock.calendar t), .yes)
  else (s, .no .badArgument)

/-- SET_CLOCK. -/
def execSetClock (fields : Fields ClockArgs) (s : State) : Host.Outcome State Fault Refusal :=
  .next (s.onStation .setClock fields fun a s => s.takeSetClock a)

/-- Whether a lane is idle: its context FREE and its list empty (R41). -/
def Lane.idle (x : Lane) : Bool := decide (x.ctx = .free) && x.entries.isEmpty

/-- SET_LANE at a lane with its role and settings in their ranges (R41). -/
def State.setRole (s : State) (l : LaneId) (role : Role) (settings : LaneSettings) : State × Answer :=
  if role = (s.lane l).role ∨ (s.lane l).idle then
    (s.updLane l fun x => { x with role := role, settings := settings }, .yes)
  else (s, .no .busy)

/-- SET_LANE (R41). DESIGN CHOICE (log 36): a role or setting outside its range together with a change of role at a lane
that is not idle is refused BAD_ARGUMENT; R41 names BAD_ARGUMENT and BUSY and gives no order. -/
def execSetLane (fields : Fields LaneArgs) (s : State) : Host.Outcome State Fault Refusal :=
  .next (s.onStation .setLane fields fun a s =>
    onLaneCode a.lane s fun l =>
      match a.role with
      | some role => if laneSettingsValid a.settings then s.setRole l role a.settings else (s, .no .badArgument)
      | none => (s, .no .badArgument))

/-- SET_LANDING (R207): all six settings together, or none. -/
def execSetLanding (fields : Fields LandingArgs) (s : State) : Host.Outcome State Fault Refusal :=
  .next (s.onStation .setLanding fields fun a s =>
    match landingOf a with
    | some landing => (s.withStation { s.station with landing := landing }, .yes)
    | none => (s, .no .badArgument))

/-- A place in the fare table (R104, R106). -/
def farePlaceValid (page index : Nat) : Bool := within 0 15 page && within 0 31 index

/-- WRITE_FARE (R104, R226, R227): an entry that is not twelve bytes is misshapen. -/
def execWriteFare (fields : Fields WriteFareArgs) (s : State) : Host.Outcome State Fault Refusal :=
  .next (s.onStation .writeFare fields fun a s =>
    if farePlaceValid a.page a.index && decide (a.entry.length = 12) then
      match decodeFare a.entry with
      | some e => (s.withFare (fareSet s.fare a.page a.index e), .yes)
      | none => (s, .no .badArgument)
    else (s, .no .badArgument))

/-- READ_FARE (R106, R227): it changes nothing. -/
def execReadFare (fields : Fields ReadFareArgs) (s : State) : Host.Outcome State Fault Refusal :=
  .next (s.onStation .readFare fields fun a s =>
    (s, if farePlaceValid a.page a.index then .ok (.fare (fareBytes (fareAt s.fare a.page a.index)))
        else .no .badArgument))

/-- A lane's role and settings, as the settings image holds them (R183). -/
def Lane.image (x : Lane) : Role × LaneSettings := (x.role, x.settings)

/-- The copy STORE_SETTINGS takes (R184 step 1). -/
def State.settingsCopy (s : State) : SettingsCopy :=
  { fare := s.fare, lanes := s.lanes.map Lane.image, landing := s.station.landing }

/-- STORE_SETTINGS (R184). -/
def execStoreSettings (fields : Fields Unit) (s : State) : Host.Outcome State Fault Refusal :=
  .next (s.onStation .storeSettings fields fun _ s =>
    match s.port.job with
    | some _ => (s, .no .busy)
    | none =>
      ((s.withPort { s.port with store := .storing }).createJob (.settingsStore s.settingsCopy 0), .yes))

end Sys2Proof.Machine
end

