-- ==== Sys2Proof/Machine/StationStatus.lean ====
section
/-!
DEFINITION. READ_STATUS, READ_STATS and RTT_QUERY (R142, R210 to R213).
-/
namespace Sys2Proof.Machine

/-- The berth part of READ_STATUS (R37, R210): vessel id and counts absent in VACANT. -/
def berthReport (x : Berth) : BerthReport :=
  { state := callState x.call, prior := priorState x.call, vesselId := x.call.map (·.vesselId),
    onBoard := x.call.map (·.onBoard), reserved := x.call.map (·.reserved),
    effectiveCap := x.call.map (·.effectiveCap), isOver := overFlag x.call, planStaged := x.plan.isSome }

/-- The phase of a context as READ_STATUS gives it: an offer and a REFUSE are not told apart (R66, R210). -/
def Context.summary : Context → SummaryPhase
  | .free => .free
  | .waiting _ _ => .waitingList
  | .offer _ | .refused _ => .decided

/-- The lane part of READ_STATUS (R66, R210). -/
def laneReport (x : Lane) : LaneReport :=
  { role := x.role, blocked := x.cond.blocked, phase := x.ctx.summary, entries := x.entries.length }

/-- Whether READ_STATUS reports the writer totals: in OPEN and COMMITTING (R150, R210). -/
def Standby.showsTotals : Standby → Bool
  | .opened | .committing => true
  | .stale | .erasing | .fault => false

/-- The deny list part of READ_STATUS (R150, R210). -/
def listReport (d : DenyUnit) : ListReport :=
  { bank := if d.noList then none else some d.selector, generation := d.generation, standby := d.standby,
    rebuilding := d.rebuild.isSome,
    totals := if d.standby.showsTotals then some (d.entriesTaken, d.overflowUsed) else none }

/-- The READ_STATUS data of the part as it stands (R210); every owner is read at one instant (R211, log 23). -/
def State.statusReport (s : State) : StatusReport :=
  { causes := s.station.causes, watermark := s.watermark, calendar := s.clock.calendar,
    resetCause := resetCauseCode s.keep.resetCause,
    berths := { a := berthReport s.berths.a, b := berthReport s.berths.b }, lanes := s.lanes.map laneReport,
    recordCount := s.log.records.length, reserve := s.log.reserve, oldestSeq := s.log.oldestSeq,
    nextSeq := s.log.nextSeq, list := listReport s.deny, store := s.port.store, source := s.port.source }

/-- READ_STATUS (R210): the latched causes it reports are cleared. -/
def execReadStatus (fields : Fields Unit) (s : State) : Host.Outcome State Fault Refusal :=
  .next (s.onStation .readStatus fields fun _ s => (s.latch fun _ => Causes.none, .ok (.status s.statusReport)))

/-- Every statistic set to 0 (R213). -/
def State.clearStats (s : State) : State :=
  (s.withLanes (s.lanes.map fun x => { x with stats := LaneStats.zero })).count fun _ => LandingStats.zero

/-- READ_STATS (R67, R213): with clear, every statistic becomes 0 after it was read. -/
def execReadStats (fields : Fields Bool) (s : State) : Host.Outcome State Fault Refusal :=
  .next (s.onStation .readStats fields fun clear s =>
    (if clear then s.clearStats else s, .ok (.stats (s.lanes.map (·.stats)) s.station.stats)))

/-- RTT_QUERY (R142): it changes nothing. -/
def execRttQuery (fields : Fields TokenId) (s : State) : Host.Outcome State Fault Refusal :=
  .next (s.onStation .rttQuery fields fun id s =>
    (s, if id = 0 then .no .badArgument else .ok (tapReport s.taps id)))

end Sys2Proof.Machine
end

