-- ==== Sys2Proof/Machine/Dispatch.lean ====
section
/-! DEFINITION. One arm per command, each a direct call of its meaning. -/
namespace Sys2Proof.Machine

def exec (i : Instr) (s : State) : Host.Outcome State Fault Refusal :=
  match i with
  | .tap lane fields => Sys2Proof.Machine.execTap lane fields s
  | .take lane => Sys2Proof.Machine.execTake lane s
  | .wroteOk lane => Sys2Proof.Machine.execWroteOk lane s
  | .wroteFailed lane => Sys2Proof.Machine.execWroteFailed lane s
  | .laneStatus lane => Sys2Proof.Machine.execLaneStatus lane s
  | .laneBadFrame lane => Sys2Proof.Machine.execLaneBadFrame lane s
  | .laneUnknownMessage lane => Sys2Proof.Machine.execLaneUnknownMessage lane s
  | .arrive berth fields => Sys2Proof.Machine.execArrive berth fields s
  | .rampOpen berth fields => Sys2Proof.Machine.execRampOpen berth fields s
  | .countQuery berth fields => Sys2Proof.Machine.execCountQuery berth fields s
  | .departReq berth fields => Sys2Proof.Machine.execDepartReq berth fields s
  | .handoverTaken berth fields => Sys2Proof.Machine.execHandoverTaken berth fields s
  | .dockBadFrame berth => Sys2Proof.Machine.execDockBadFrame berth s
  | .dockUnknownMessage berth => Sys2Proof.Machine.execDockUnknownMessage berth s
  | .silenceDeadline berth => Sys2Proof.Machine.execSilenceDeadline berth s
  | .closingDeadline berth => Sys2Proof.Machine.execClosingDeadline berth s
  | .berthCommit berth lane => Sys2Proof.Machine.execBerthCommit berth lane s
  | .berthRelease berth lane => Sys2Proof.Machine.execBerthRelease berth lane s
  | .rawLevelChange lane level => Sys2Proof.Machine.execRawLevelChange lane level s
  | .debounceDeadline lane => Sys2Proof.Machine.execDebounceDeadline lane s
  | .blockedDeadline lane => Sys2Proof.Machine.execBlockedDeadline lane s
  | .verdictDeadline lane => Sys2Proof.Machine.execVerdictDeadline lane s
  | .takeDeadline lane => Sys2Proof.Machine.execTakeDeadline lane s
  | .writeDeadline lane => Sys2Proof.Machine.execWriteDeadline lane s
  | .passageDeadline lane which => Sys2Proof.Machine.execPassageDeadline lane which s
  | .calendarSecond => Sys2Proof.Machine.execCalendarSecond s
  | .readStatus fields => Sys2Proof.Machine.execReadStatus fields s
  | .readStats fields => Sys2Proof.Machine.execReadStats fields s
  | .setClock fields => Sys2Proof.Machine.execSetClock fields s
  | .setLane fields => Sys2Proof.Machine.execSetLane fields s
  | .setLanding fields => Sys2Proof.Machine.execSetLanding fields s
  | .writeFare fields => Sys2Proof.Machine.execWriteFare fields s
  | .readFare fields => Sys2Proof.Machine.execReadFare fields s
  | .stagePlan fields => Sys2Proof.Machine.execStagePlan fields s
  | .cancelPlan fields => Sys2Proof.Machine.execCancelPlan fields s
  | .setCap fields => Sys2Proof.Machine.execSetCap fields s
  | .closeBerth fields => Sys2Proof.Machine.execCloseBerth fields s
  | .reopenBerth fields => Sys2Proof.Machine.execReopenBerth fields s
  | .forceVacate fields => Sys2Proof.Machine.execForceVacate fields s
  | .laneClear fields => Sys2Proof.Machine.execLaneClear fields s
  | .listBegin fields => Sys2Proof.Machine.execListBegin fields s
  | .listAdd fields => Sys2Proof.Machine.execListAdd fields s
  | .listCommit fields => Sys2Proof.Machine.execListCommit fields s
  | .logPeek fields => Sys2Proof.Machine.execLogPeek fields s
  | .logDrop fields => Sys2Proof.Machine.execLogDrop fields s
  | .storeSettings fields => Sys2Proof.Machine.execStoreSettings fields s
  | .restart fields => Sys2Proof.Machine.execRestart fields s
  | .rttQuery fields => Sys2Proof.Machine.execRttQuery fields s
  | .emptyFrame => Sys2Proof.Machine.execEmptyFrame s
  | .stationBadFrame => Sys2Proof.Machine.execStationBadFrame s
  | .stationUnknownCommand kind => Sys2Proof.Machine.execStationUnknownCommand kind s
  | .portGrant => Sys2Proof.Machine.execPortGrant s
  | .suspendIssue => Sys2Proof.Machine.execSuspendIssue s
  | .suspendEnd status => Sys2Proof.Machine.execSuspendEnd status s
  | .pageReadEnd reads => Sys2Proof.Machine.execPageReadEnd reads s
  | .pageProgramEnd good => Sys2Proof.Machine.execPageProgramEnd good s
  | .sectorEraseEnd good => Sys2Proof.Machine.execSectorEraseEnd good s
  | .flashResetEnd => Sys2Proof.Machine.execFlashResetEnd s
  | .operationTimeLimit => Sys2Proof.Machine.execOperationTimeLimit s
  | .resetInputAssert => Sys2Proof.Machine.execResetInputAssert s
  | .resetInputRelease => Sys2Proof.Machine.execResetInputRelease s
  | .coreSupplyRise retentionLow => Sys2Proof.Machine.execCoreSupplyRise retentionLow s
  | .coreSupplyFall => Sys2Proof.Machine.execCoreSupplyFall s
  | .retentionSupplyDip => Sys2Proof.Machine.execRetentionSupplyDip s
  | .flashReadyTimeout => Sys2Proof.Machine.execFlashReadyTimeout s

end Sys2Proof.Machine
end

