-- ==== Sys2Proof/Safety.lean ====
section
/-!
DEFINITION. The laws the spec states of every reachable state, as predicates on a state: the reserve of the trip log,
the lanes' lists, the places, the recent-tap table, the capacities, the lookups, the settings, the clock, the sequence
numbers, the bank that is never written; and the words in which the statements of Certificates/ say what a step leaves.
-/
namespace Sys2Proof.Machine

/-! ## Words of the statements -/

/-- A transfer answered at the station port: what it shifts out, and the reply it leaves pending (R202). -/
def State.answered (s : State) (r : StationReply) : State :=
  s.withStation { s.station with shiftedOut := some (s.station.pendingReply.getD .none), pendingReply := some r }

/-- A berth with a record and the reply formed on its dock link (R5). -/
def State.docked (s : State) (b : BerthId) (c : Option Call) (r : Option DockReply) : State :=
  s.setBerth b { s.berth b with call := c, reply := r }

/-- BERTH_EVENT latched (R37). -/
def State.latchBerthEvent (s : State) : State := s.latch fun x => { x with berthEvent := true }

/-- A station frame whose pending reply was collected, before its command is answered (R202). -/
def State.collected (s : State) : State :=
  s.withStation { s.station with shiftedOut := some (s.station.pendingReply.getD .none), pendingReply := none }

/-- A lane's sensor after an accepted change to CLEAR (R73). -/
def State.sensorClear (s : State) (l : LaneId) : State :=
  s.setLane l { s.lane l with
    cond := { level := .clear, debounceDeadline := none, occupiedSince := none, blockedDeadline := none,
              blocked := false, raw := (s.lane l).cond.raw } }

/-- A call with its OVER flag set exactly when more are on board than the effective capacity (R31). -/
def Call.withOver (c : Call) : Call := { c with isOver := decide (c.effectiveCap < c.onBoard) }

/-- A page read ended: the port free, the re-reads and an unreadable result counted (R171, R173). -/
def State.readCounted (s : State) (res : PageResult) (rereads : Nat) : State :=
  (s.withPort { s.port with op := none, due := none }).count fun x =>
    { x with
      pageReReads := bumpBy rereads x.pageReReads
      unreadablePages := if res = .unreadable then bump x.unreadablePages else x.unreadablePages }

/-- The held erase and the background job ended (R175, R182): the port is free, its counts are 0. -/
def FlashPort.jobEnded (p : FlashPort) : FlashPort :=
  { p with op := none, due := none, held := none, suspendCount := 0, runSince := none, job := none, streak := 0 }

/-- A command that a pin, a supply or the calendar brings: the only ones a held part acts on (R216). -/
def Instr.fromOutside : Instr → Bool
  | .rawLevelChange _ _ | .calendarSecond | .resetInputAssert | .resetInputRelease | .coreSupplyRise _
  | .coreSupplyFall | .retentionSupplyDip => true
  | _ => false

/-- A transfer at the station port (R202). -/
def Instr.viaStation : Instr → Bool
  | .readStatus _ | .readStats _ | .setClock _ | .setLane _ | .setLanding _ | .writeFare _ | .readFare _ | .stagePlan _
  | .cancelPlan _ | .setCap _ | .closeBerth _ | .reopenBerth _ | .forceVacate _ | .laneClear _ | .listBegin _
  | .listAdd _ | .listCommit _ | .logPeek _ | .logDrop _ | .storeSettings _ | .restart _ | .rttQuery _ | .emptyFrame
  | .stationBadFrame | .stationUnknownCommand _ => true
  | _ => false

/-- `n` steps one after another; the first outcome that is no next state ends them. -/
def stepTimes : Nat → State → Host.Outcome State Fault Refusal
  | 0, s => .next s
  | n + 1, s =>
    match step s with
    | .next t => stepTimes n t
    | o => o

/-- The clock after `n` milliseconds with no command taken (R85, R88). -/
def Clock.after (c : Clock) : Nat → Clock
  | 0 => c
  | n + 1 => (c.after n).tick

/-- Contents as the records that follow a sequence number (R188). -/
def numbered (next : BitVec 16) : List Content → List Record
  | [] => []
  | c :: rest => { seq := next, content := c } :: numbered (next + 1) rest

/-- The VOID records of the given lanes' entries, lanes in order (log 22), each lane's older entry first (R62, R64). -/
def State.voidRecords (s : State) (lanes : List LaneId) (reason : VoidReason) : List Content :=
  lanes.flatMap fun l => (s.lane l).entries.map fun e => e.voidContent l s.clock.calendar reason

/-- The boarding lanes of a berth, in order. -/
def State.lanesAt (s : State) (b : BerthId) : List LaneId :=
  LaneId.list.filter fun l => decide ((s.lane l).role.boards = some b)

/-- The log after reserved appends of contents and releases of slots (R188, R192, R193). -/
def TripLog.afterAppends (g : TripLog) (contents : List Content) (releases : Nat) : TripLog :=
  { records := g.records ++ numbered g.nextSeq contents
    reserve := g.reserve - contents.length - releases
    nextSeq := g.nextSeq + BitVec.ofNat 16 contents.length }

/-- The REFUSAL records asked for before (log 34), and then these, asked of the log in order as unreserved appends
(R194). -/
def State.askedThen (s : State) (contents : List Content) : State :=
  (s.asked ++ contents).foldl State.appendUnreserved (s.withAsked [])

/-- A lane decided REFUSE for a reason: the verdict in its context, "refused" raised (R125). -/
def State.refusing (s : State) (l : LaneId) (p : Progress) (r : Reason) : State :=
  s.setLane l { s.lane l with
    ctx := .refused (p.refused r none)
    stats := { (s.lane l).stats with refused := bump (s.lane l).stats.refused } }

/-- The state a lane's TAKE verdict deadline leaves to the decision (R118): the lookup withdrawn, "deadline decisions"
raised, the hold of a TAKE over. -/
def State.deadlineTaken (s : State) (l : LaneId) : State :=
  (s.withdrawLookup l).setLane l { s.lane l with
    takeHeld := false
    stats := { (s.lane l).stats with deadlineDecisions := bump (s.lane l).stats.deadlineDecisions } }

/-- The DEPARTURE content of a call, its commits in flight taken (R8, R28, log 8). -/
def Call.departureContent (c : Call) (now : Option CalTime) (noHandover : Bool) : DepartureContent :=
  { vesselId := c.vesselId, line := c.line, arrival := c.arrival, departure := now, arrivalOnBoard := c.arrivalOnBoard
    boarded := bumpBy (c.inFlight.countP fun m => decide (m.2 = Holding.commit)) c.boarded
    alighted := c.alighted, unmatched := c.unmatched, tailgates := c.tailgates
    onBoard := bumpBy (c.inFlight.countP fun m => decide (m.2 = Holding.commit)) c.onBoard
    noHandover := noHandover }

/-- Whether a context holds an offer, as a count. -/
def Context.offers : Context → Nat
  | .offer _ => 1
  | .free | .waiting _ _ | .refused _ => 0

/-- The log slots that the offers of the given lanes hold (R49). -/
def State.offerSlots (s : State) (lanes : List LaneId) : Nat := (lanes.map fun l => (s.lane l).ctx.offers).sum

/-- The token ids whose use a lane holds: its offer's, then its entries', older first (R49, R62). -/
def Lane.heldTokens (x : Lane) : List TokenId :=
  (match x.ctx with | .offer o => [o.tokenId] | .free | .waiting _ _ | .refused _ => [])
    ++ x.entries.map (·.tokenId)

/-- A conditioner started afresh from its raw line at a time (R83). -/
def Lane.restartedCond (x : Lane) (now : Nat) : Conditioner :=
  { level := .clear
    debounceDeadline := if x.cond.raw = .occupied then some (now + x.settings.debounce) else none
    occupiedSince := none, blockedDeadline := none, blocked := false, raw := x.cond.raw }

/-- What the judgement and step 1 of a warm restart leave (R217, R218): the mark WARM, the work in flight stopped, the
holdings, the calls, the log and the clock untouched. `out` is what the latest transfer shifted out. -/
def WarmBegun (cause : ResetCause) (out : Option StationReply) (s t : State) : Prop :=
  t.keep.run = .warmRestart .suspendCalls ∧ t.keep.resetCause = cause ∧ t.keep.latch = false ∧ t.keep.mark = .warm
  ∧ t.station.pendingReply = none ∧ t.station.shiftedOut = out ∧ t.deny = { s.deny with queue := [] }
  ∧ t.port = { s.port with op := some .reset, due := none, held := none, suspendCount := 0, runSince := none,
                           streak := 0, job := none }
  ∧ (∀ l, (t.lane l).takeHeld = false ∧ (t.lane l).entries = (s.lane l).entries
      ∧ (t.lane l).ctx = (match (s.lane l).ctx with
        | .waiting _ _ => .free
        | .free => .free
        | .offer o => .offer o
        | .refused r => .refused r))
  ∧ t.berths = s.berths ∧ t.log = s.log ∧ t.taps = s.taps ∧ t.clock = s.clock ∧ t.fare = s.fare

/-- What a warm restart leaves (R38, R68, R144, R170, R186, R200, R201, R214, R218): what it keeps and what it ends.
Its steps 2 to 6 are taken in the milliseconds after the judgement (log 14): the closing deadlines count from the first,
the conditioners start at the third. A berth takes the messages in flight to it before its places are back (log 9). -/
def WarmRestarted (cause : ResetCause) (out : Option StationReply) (s t : State) : Prop :=
  t.keep.run = .running ∧ t.keep.resetCause = cause ∧ t.keep.latch = false ∧ t.keep.mark = .unmarked
  ∧ t.keep.dayChange = false ∧ t.clock = s.clock.after 5 ∧ t.fare = s.fare ∧ t.pending = s.pending ∧ t.asked = []
  -- The station port: settings and latched causes kept, causes of the restart latched.
  ∧ t.station.pendingReply = none ∧ t.station.shiftedOut = out ∧ t.station.landing = s.station.landing
  ∧ t.station.causes.restarted = true
  ∧ t.station.causes.laneFault = s.station.causes.laneFault
  ∧ ((s.station.causes.berthEvent = true ∨ ∃ b c, s.call b = some c ∧ c.suspended = false) →
      t.station.causes.berthEvent = true)
  ∧ t.station.causes.listDone = (s.station.causes.listDone || decide (s.deny.standby = .erasing)
      || decide (s.deny.standby = .opened) || decide (s.deny.standby = .committing))
  ∧ t.station.causes.settingsDone = (s.station.causes.settingsDone || decide (s.port.store = .storing))
  -- The lanes: role, settings and statistics kept; the offer, the REFUSE and the entries ended.
  ∧ (∀ l, t.lane l = { s.lane l with
      ctx := .free, entries := [], takeHeld := false
      takeDeadline := (match (s.lane l).ctx with
        | .offer _ => none
        | .free | .waiting _ _ | .refused _ => (s.lane l).takeDeadline)
      reply := if (s.lane l).takeHeld then none else (s.lane l).reply
      stats := { (s.lane l).stats with
        voided := bumpBy (s.lane l).entries.length (s.lane l).stats.voided
        offersDropped := (match (s.lane l).ctx with
          | .offer _ => bump (s.lane l).stats.offersDropped
          | .free | .waiting _ _ | .refused _ => (s.lane l).stats.offersDropped) }
      cond := (s.lane l).restartedCond (s.clock.after 3).timeBase })
  -- The berths: plan and record kept, the call suspended, its places back.
  ∧ (∀ b, (t.berth b).plan = (s.berth b).plan ∧ (t.berth b).reply = (s.berth b).reply)
  ∧ (∀ b, s.call b = none → t.call b = none)
  ∧ (∀ b c n, s.call b = some c → n = c.inFlight.countP (fun m => decide (m.2 = Holding.commit)) →
      t.call b = some { c with
        suspended := true, silenceDeadline := none, reserved := 0, inFlight := []
        closingDeadline := if c.stage = .closing then
            some ((s.clock.after 1).timeBase + c.grace.getD s.station.landing.closingGrace * 1000) else none
        onBoard := bumpBy n c.onBoard, boarded := bumpBy n c.boarded
        isOver := if n = 0 then c.isOver else decide (c.effectiveCap < bumpBy n c.onBoard) })
  -- The recent-tap table: uses given back, entries with uses 0 removed, the others kept in order.
  ∧ (∀ kept, kept = (((LaneId.list.flatMap fun l => (s.lane l).heldTokens).foldl tapRelease s.taps).filter
        (fun e => decide (e.uses ≠ 0))).map (fun e => { e with held := false }) →
      (s.keep.dayChange = false → t.taps = kept)
      ∧ (∀ d, s.keep.dayChange = true → s.clock.calendar = some d → t.taps = tapUnpin kept d.day))
  -- The trip log: a VOID record for each entry, the offers' slots back, then the RESTART record where there is room.
  ∧ (∀ u, u = (s.withLog (s.log.afterAppends (s.voidRecords LaneId.list .restart)
        (s.lanes.sum fun x => x.ctx.offers))).askedThen [.restart s.clock.calendar cause] →
      t.log = u.log ∧ t.station.stats = u.station.stats)
  -- The deny list unit and the list flash port.
  ∧ (∀ d, d = { s.deny with queue := [], rebuild := s.deny.rebuild.map fun _ => { position := 0, fresh := 0 } } →
      t.deny = (match s.deny.standby with
        | .stale | .fault => d
        | .erasing | .opened | .committing =>
          { d with standby := .fault, buffer := none, entriesTaken := 0, overflowUsed := 0 }))
  ∧ t.port = { op := some .reset, due := none, held := none, suspendCount := 0, runSince := none, streak := 0
               job := if s.deny.rebuild.isSome then some .rebuild else none
               store := if s.port.store = .storing then .fault else s.port.store
               source := s.port.source }

/-- What a cold start begins with (R220 steps 1 and 2): the initial values, the reset operation at the flash. What was
sent on a wire stands (R202, log 28). -/
def ColdStarted (cause : ResetCause) (out : Option StationReply) (s t : State) : Prop :=
  t.keep.run = .coldStart (.flashReset 0) ∧ t.keep.resetCause = cause ∧ t.keep.latch = false ∧ t.keep.mark = .cold
  ∧ t.clock = { timeBase := 0, calendar := none, phase := 0, secondsDue := 0 }
  ∧ t.log = { records := [], reserve := 0, nextSeq := 0 } ∧ t.asked = [] ∧ t.taps = []
  ∧ (∀ b, t.berth b = { call := none, plan := none, reply := (s.berth b).reply })
  ∧ (∀ l, t.lane l = { Lane.initial (s.lane l).cond.raw with
      reply := if (s.lane l).takeHeld then none else (s.lane l).reply })
  ∧ t.port = { FlashPort.initial with op := some .reset } ∧ t.deny = DenyUnit.initial
  ∧ t.station = { Station.initial with shiftedOut := out } ∧ t.fare = State.reset.fare
  ∧ t.pending = s.pending

/-- What the end of a cold start leaves, from the generations of the valid bank headers (R166, R168, R220 steps 4 to
6). -/
def ColdEnded (a b : Option Nat) (s t : State) : Prop :=
  t.keep = { s.keep with run := .running, mark := .unmarked }
  ∧ t.station.causes = { s.station.causes with restarted := true } ∧ t.station.landing = s.station.landing
  ∧ (∀ l, t.lane l = { s.lane l with
      cond :=
        { level := .clear
          debounceDeadline := if (s.lane l).cond.raw = .occupied then some (s.now + (s.lane l).settings.debounce)
            else none
          occupiedSince := none, blockedDeadline := none, blocked := false, raw := (s.lane l).cond.raw } })
  ∧ (a = none → b = none → t.deny.noList = true ∧ t.deny.selector = .bankB ∧ t.deny.generation = 0)
  ∧ (∀ g, a = some g → (b = none ∨ ∃ h, b = some h ∧ h ≤ g) →
      t.deny.noList = false ∧ t.deny.selector = .bankA ∧ t.deny.generation = g)
  ∧ (∀ h, b = some h → (a = none ∨ ∃ g, a = some g ∧ g < h) →
      t.deny.noList = false ∧ t.deny.selector = .bankB ∧ t.deny.generation = h)
  ∧ t.deny.activeFilter = BitVec.allOnes 4096 ∧ t.deny.standbyFilter = 0 ∧ t.deny.standby = .stale
  ∧ t.deny.rebuild = (if t.deny.noList then none else some { position := 0, fresh := 0 })
  ∧ t.port.job = (if t.deny.noList then none else some .rebuild)
  ∧ (s.port.due = none → s.deny.queue = [] →
      t.port.due = if t.port.op = none ∧ t.deny.noList = false then some .job else none)
  ∧ t.clock = s.clock ∧ t.log = s.log ∧ t.taps = s.taps ∧ t.fare = s.fare ∧ t.berths = s.berths

/-! ## What a lane and the part hold -/

/-- The holdings of a lane: its offer and its pending passage entries (R2, R190). -/
def Lane.holdings (x : Lane) : Nat := x.ctx.offers + x.entries.length

/-- The holdings of every lane. -/
def State.holdings (s : State) : Nat := s.lanes.sum Lane.holdings

/-- 1 for an open call, 0 in VACANT. -/
def Berth.openCount (x : Berth) : Nat := if x.call.isSome then 1 else 0

/-- The number of berths not VACANT. -/
def State.openCalls (s : State) : Nat := s.berths.a.openCount + s.berths.b.openCount

/-- The law of the reserve (R190): the reserve is the offers, the entries and the open calls, and the free slots are
never less. -/
def LogLaw (s : State) : Prop :=
  s.log.reserve = s.holdings + s.openCalls ∧ s.log.records.length + s.log.reserve ≤ 1024

/-! ## The lanes' lists -/

/-- Whether a context may still lead to an entry: an evaluation that waits, or an offer. -/
def Context.pendingAdmission : Context → Bool
  | .waiting _ _ | .offer _ => true
  | .free | .refused _ => false

/-- The law of a lane's list (R54), with what R110 says of a lane whose context may still admit: at most two entries, an
AWAIT_WRITE entry only as the younger, and while an evaluation waits or an offer stands at most one, not in AWAIT_WRITE. -/
def Lane.listLaw (x : Lane) : Prop :=
  x.entries.length ≤ 2
  ∧ (∀ e ∈ x.entries.dropLast, e.phase = .awaitPassage)
  ∧ (x.ctx.pendingAdmission = true → x.entries.length ≤ 1 ∧ ∀ e ∈ x.entries, e.phase = .awaitPassage)

/-- The law of every lane's list. -/
def LaneListLaw (s : State) : Prop := ∀ l, (s.lane l).listLaw

/-! ## The recent-tap table -/

/-- The law of the recent-tap table (R131): at most 512 entries, no two with the same token id. -/
def TapTableLaw (s : State) : Prop := s.taps.length ≤ 512 ∧ (s.taps.map (·.tokenId)).Nodup

/-! ## The calls -/

/-- The capacities of a call (R1, R3). -/
def Call.capacityLaw (c : Call) : Prop :=
  1 ≤ c.effectiveCap ∧ c.effectiveCap ≤ c.declaredCap ∧ c.declaredCap ≤ 900

/-- A staged plan whose fields lie in their ranges (R32). -/
def planLaw (p : Plan) : Prop := planValid p = true

/-- The law of a berth's capacities: the open call's, and the plan staged for the next. -/
def Berth.capacityLaw (x : Berth) : Prop := (∀ c, x.call = some c → c.capacityLaw) ∧ (∀ p, x.plan = some p → planLaw p)

/-- The law of both berths' capacities (R3). -/
def CapacityLaw (s : State) : Prop := ∀ b, (s.berth b).capacityLaw

/-! ## The places -/

/-- The places a lane holds on a berth (R2). -/
def Lane.placesOn (b : BerthId) (x : Lane) : Nat := if x.role.boards = some b then x.holdings else 0

/-- The places held on a berth by its lanes (R2). -/
def State.placesHeld (s : State) (b : BerthId) : Nat := s.lanes.sum (Lane.placesOn b)

/-- The law of one call's places: reserved is what the lanes hold and what they have given back and the berth has not
yet taken (R2, R7, log 8); in HANDOVER nothing is held (R17). -/
def Call.placeLaw (c : Call) (held : Nat) : Prop :=
  c.reserved = held + c.inFlight.length ∧ (c.stage = .handover → c.reserved = 0)

/-- The law of the places (R2): an open call's reserved count, nothing held on a VACANT berth, and each entry of a lane
at the berth its role boards at. In a cold start, which may give a lane another role, no lane holds anything (R220). -/
def PlaceLaw (s : State) : Prop :=
  (∀ b, match s.call b with
    | some c => c.placeLaw (s.placesHeld b)
    | none => s.placesHeld b = 0)
  ∧ (∀ l, ∀ e ∈ (s.lane l).entries, e.berth = (s.lane l).role.boards)
  ∧ (∀ stage, s.keep.run = .coldStart stage → ∀ l, (s.lane l).holdings = 0)

/-- A lane's messages among those in flight to a berth. -/
def Call.inFlightOf (c : Call) (l : LaneId) : Nat := c.inFlight.countP fun m => decide (m.1 = l)

/-- The bound of the places (R2): a lane accounts for at most two places of a call, held or on their way back. -/
def PlaceBoundLaw (s : State) : Prop :=
  LaneListLaw s ∧ ∀ b c l, s.call b = some c → (s.lane l).placesOn b + c.inFlightOf l ≤ 2

/-! ## The lookups -/

/-- Whether a context waits for the lookup of a token. -/
def Context.waitsFor (c : Context) (id : TokenId) : Bool :=
  match c with
  | .waiting e _ => decide (e.token.id = id)
  | .free | .offer _ | .refused _ => false

/-- The law of the lookup queue (R152): at most one lookup per lane, and the lane of each waits for its token. -/
def LookupLaw (s : State) : Prop :=
  (s.deny.queue.map (·.lane)).Nodup ∧ ∀ q ∈ s.deny.queue, (s.lane q.lane).ctx.waitsFor q.tokenId = true

/-! ## Settings and clock -/

/-- The landing settings in their ranges (R207). -/
def LandingSettings.valid (x : LandingSettings) : Bool :=
  within 1 4095 x.landingId && within 0 600 x.passback && within 1 1023 x.watermark && within 5 60 x.closingGrace

/-- The law of the settings (R40, R207): each lies in its range. -/
def SettingsLaw (s : State) : Prop :=
  (∀ l, laneSettingsValid (s.lane l).settings = true) ∧ s.station.landing.valid = true

/-- A calendar time in its ranges (R84). -/
def CalTime.valid (t : CalTime) : Prop := t.day ≤ 65535 ∧ t.second ≤ 86399

/-- The law of the calendar (R84, R85): in its ranges when set, the phase 0 to 999; the phase 0 and no second due while
NOT_SET, and at the last calendar time. -/
def CalendarLaw (s : State) : Prop :=
  s.clock.phase ≤ 999
  ∧ match s.clock.calendar with
    | some t => t.valid ∧ (t = lastCalTime → s.clock.phase = 0 ∧ s.clock.secondsDue = 0)
    | none => s.clock.phase = 0 ∧ s.clock.secondsDue = 0

/-! ## Sequence numbers -/

/-- Whether records carry consecutive sequence numbers from the first one's up to one below `next` (R188). -/
def seqRun : List Record → BitVec 16 → Prop
  | [], _ => True
  | r :: rest, next => r.seq + BitVec.ofNat 16 (rest.length + 1) = next ∧ seqRun rest next

/-- The law of the sequence numbers (R188): they rise by one from each record to the next younger one, up to the next
sequence number. -/
def SequenceLaw (s : State) : Prop := seqRun s.log.records s.log.nextSeq

/-! ## The bank that is never written -/

/-- Whether a flash page belongs to a bank (R145). -/
def bankHasPage : Bank → Nat → Bool
  | .bankA, p => decide (p < 5120)
  | .bankB, p => within 5120 10239 p

/-- Whether a flash sector belongs to a bank (R145). -/
def bankHasSector : Bank → Nat → Bool
  | .bankA, n => decide (n < 320)
  | .bankB, n => within 320 639 n

/-- Whether an operation writes or erases a bank. -/
def FlashOp.writesBank (k : Bank) : FlashOp → Bool
  | .pageProgram page _ _ => bankHasPage k page
  | .sectorErase sector => bankHasSector k sector
  | .suspend sector => bankHasSector k sector
  | .pageRead _ _ | .reset => false

/-- Whether an operation is a program. -/
def FlashOp.isProgram : FlashOp → Bool
  | .pageProgram _ _ _ => true
  | .pageRead _ _ | .sectorErase _ | .suspend _ | .reset => false

/-- What a job may still program or erase lies in its bank or in the settings image. -/
def Job.inRange : Job → Bool
  | .listErase i => decide (i < 320)
  | .flush target _ => decide (target < 5120)
  | .commit (some (target, _)) => decide (target < 5120)
  | .commit none | .rebuild | .settingsStore _ _ => true

/-- The writer page buffer's target is a page of the bank: the bucket's primary page, or an overflow page already
allocated (R159). -/
def Buffer.inRange (b : Buffer) : Bool := decide (b.target < 5119)

/-- The law of the banks (R156): no operation in progress and no held erase writes or erases the active bank. With it
stand what keeps it: a program has no erase held beside it, what the job and the buffer will write lies inside the
standby bank or the settings image, and a cold start has nothing but reads and the reset operation at the flash. -/
def ActiveBankLaw (s : State) : Prop :=
  (∀ o, s.port.op = some o → o.writesBank s.deny.selector = false)
  ∧ (∀ h, s.port.held = some h → bankHasSector s.deny.selector h.sector = false)
  ∧ (∀ o, s.port.op = some o → o.isProgram = true → s.port.held = none)
  ∧ (∀ j, s.port.job = some j → j.inRange = true)
  ∧ (∀ b, s.deny.buffer = some b → b.inRange = true)
  ∧ s.deny.overflowUsed ≤ 1023
  ∧ (∀ stage, s.keep.run = .coldStart stage →
      s.port.held = none ∧ ∀ o, s.port.op = some o → ∀ k, o.writesBank k = false)

end Sys2Proof.Machine
end

