-- ==== Sys2Proof/Certificates/Slice0/Obligations.lean ====
section
/-!
DEFINITION. The statements for the provers. Each is about the model's step, the meaning of a command, or one shared
operation; the laws of every state are those of Safety.lean.
-/
open Sys2Proof Sys2Proof.Machine

/-! ## The step, the reset and the laws -/

/-- A step takes the command at the front of the queue, with the queue's rest standing. -/
def Obligations.StepTakesTheFrontCommand : Prop :=
  ∀ (c : Instr) (rest : List Instr) (s : State), step (s.withPending (c :: rest)) = exec c (s.withPending rest)

/-- The model's choice (logs 2, 4, 13, 14, 34): on an empty queue a step is one millisecond. The time base rises by one
(R88); the phase rises within 0 to 999 while the calendar is set and not at its last second, and where it returns to 0 a
calendar second is due (R84, R85; log 4). The running part's log then takes the REFUSAL records asked for (log 34), and a
warm restart takes its next step (log 14). In a cold start the time base stands and the wait for the flash counts (log
13). -/
def Obligations.EmptyQueueStepIsOneMillisecond : Prop :=
  ∀ s : State, s.pending = [] →
    (s.now + 1 < 2 ^ 48 →
      ∀ u : State,
        ((∃ d, s.clock.calendar = some d ∧ d ≠ { day := 65535, second := 86399 } ∧ s.clock.phase < 999
            ∧ u = s.withClock { timeBase := s.now + 1, calendar := some d, phase := s.clock.phase + 1,
                                secondsDue := s.clock.secondsDue })
          ∨ (∃ d, s.clock.calendar = some d ∧ d ≠ { day := 65535, second := 86399 } ∧ 999 ≤ s.clock.phase
            ∧ u = s.withClock { timeBase := s.now + 1, calendar := some d, phase := 0,
                                secondsDue := s.clock.secondsDue + 1 })
          ∨ (s.clock.calendar = some { day := 65535, second := 86399 }
            ∧ u = s.withClock { timeBase := s.now + 1, calendar := some { day := 65535, second := 86399 }, phase := 0,
                                secondsDue := s.clock.secondsDue })
          ∨ (s.clock.calendar = none
            ∧ u = s.withClock { timeBase := s.now + 1, calendar := none, phase := 0, secondsDue := 0 })) →
        (s.keep.run = .running → step s = .next (u.askedThen []) ∧ (s.asked = [] → step s = .next u))
        ∧ (∀ r, s.keep.run = .held r → step s = .next u)
        ∧ ∀ stage, s.keep.run = .warmRestart stage → step s = .next (u.warmStep stage))
    ∧ (∀ waited, s.keep.run = .coldStart (.flashReset waited) →
      step s = .next (s.withKeep { s.keep with run := .coldStart (.flashReset (waited + 1)) }))
    ∧ (∀ stage, s.keep.run = .coldStart stage → (∀ waited, stage ≠ .flashReset waited) → step s = .next s)

/-- Every command, in every state, gives a next state, and none changes the queue: a command that a block refuses changes
nothing, and the part goes on (00_scope.md); a command of a link that cannot reach the part as it stands leaves it (log
25), and events are taken one at a time (log 1). -/
def Obligations.EveryCommandGivesANextState : Prop :=
  ∀ (c : Instr) (s : State), ∃ t, exec c s = .next t ∧ t.pending = s.pending

/-- What the spec gives the blocks after a power-on with no valid settings image and no valid bank header (the
choice of that flash is log 6): clock, reset cause, lanes, berths, fare table, recent-tap table, deny list unit, port,
log, station port. -/
def Obligations.ResetLeavesThePowerOnValues : Prop :=
  State.reset.clock = { timeBase := 0, calendar := none, phase := 0, secondsDue := 0 }
  ∧ State.reset.keep.resetCause = .powerOn ∧ State.reset.keep.mark = .unmarked ∧ State.reset.keep.latch = false
  ∧ (∀ l, (State.reset.lane l).role = .off
      ∧ (State.reset.lane l).settings
          = { verdictDeadline := 300, writeTimeout := 2000, passageTimeout := 10, debounce := 20, homeLine := 0 }
      ∧ (State.reset.lane l).ctx = .free ∧ (State.reset.lane l).entries = []
      ∧ (State.reset.lane l).takeDeadline = none ∧ (State.reset.lane l).takeHeld = false
      ∧ (State.reset.lane l).stats
          = { taps := 0, committed := 0, refused := 0, voided := 0, tailgates := 0, offersDropped := 0,
              deadlineDecisions := 0, tapsSuperseded := 0, badFrames := 0 }
      ∧ (State.reset.lane l).cond.level = .clear ∧ (State.reset.lane l).cond.blocked = false)
  ∧ (∀ b, State.reset.call b = none ∧ (State.reset.berth b).plan = none)
  ∧ (∀ page index, page ≤ 15 → index ≤ 31 → fareAt State.reset.fare page index = .empty)
  ∧ State.reset.taps = []
  ∧ State.reset.deny.noList = true ∧ State.reset.deny.generation = 0
  ∧ State.reset.deny.activeFilter = BitVec.allOnes 4096 ∧ State.reset.deny.standbyFilter = 0
  ∧ State.reset.deny.standby = .stale ∧ State.reset.deny.buffer = none ∧ State.reset.deny.queue = []
  ∧ State.reset.port.op = none ∧ State.reset.port.held = none ∧ State.reset.port.job = none
  ∧ State.reset.port.due = none ∧ State.reset.port.streak = 0 ∧ State.reset.port.store = .idle ∧ State.reset.port.source = .defaults
  ∧ State.reset.log = { records := [], reserve := 0, nextSeq := 0 } ∧ State.reset.asked = []
  ∧ State.reset.station.pendingReply = none
  ∧ State.reset.station.causes
      = { berthEvent := false, laneFault := false, listDone := false, settingsDone := false, restarted := true }
  ∧ State.reset.station.landing
      = { landingId := 1, passback := 60, failPolicy := .opened, logRefusals := false, watermark := 768,
          closingGrace := 20 }
  ∧ State.reset.station.stats
      = { unlogged := 0, lookupsStarted := 0, pageReReads := 0, unreadablePages := 0, eraseSuspends := 0,
          strayPassages := 0 }
  ∧ State.reset.attention = true ∧ State.reset.pending = []

/-- Every law of Safety.lean holds after reset. -/
def Obligations.LawsHoldAfterReset : Prop :=
  LogLaw State.reset ∧ LaneListLaw State.reset ∧ TapTableLaw State.reset ∧ CapacityLaw State.reset
  ∧ PlaceLaw State.reset ∧ PlaceBoundLaw State.reset ∧ LookupLaw State.reset ∧ SettingsLaw State.reset
  ∧ CalendarLaw State.reset ∧ SequenceLaw State.reset ∧ ActiveBankLaw State.reset

/-- The law of the reserve (R190): the reserve count is the offers, the pending passage entries and the open calls, and
the free slots are never less; and the records carry consecutive sequence numbers, up to the next one (R188). Every step
keeps both. -/
def Obligations.EveryStepKeepsTheTripLog : Prop :=
  ∀ s t : State, step s = .next t → (LogLaw s → LogLaw t) ∧ (SequenceLaw s → SequenceLaw t)

/-- The law of the lanes' lists (R54). Every step keeps it. -/
def Obligations.EveryStepKeepsTheLaneLists : Prop :=
  ∀ s t : State, LaneListLaw s → step s = .next t → LaneListLaw t

/-- At most 512 entries in the recent-tap table, no two of one token (R131). Every step keeps it. -/
def Obligations.EveryStepKeepsTheTapTable : Prop :=
  ∀ s t : State, TapTableLaw s → step s = .next t → TapTableLaw t

/-- The law of the places (R2, R7, R17), with the messages a berth has not yet taken counted as held (log 8). Every
step keeps it. -/
def Obligations.EveryStepKeepsThePlaces : Prop :=
  ∀ s t : State, PlaceLaw s → step s = .next t → PlaceLaw t

/-- A lane accounts for at most two places of a call, so reserved lies in 0 to 16 (R2; messages in flight: log 8).
Every step keeps it. -/
def Obligations.EveryStepKeepsReservedAtMostSixteen : Prop :=
  ∀ s t : State, PlaceLaw s → PlaceBoundLaw s → step s = .next t →
    PlaceBoundLaw t ∧ ∀ b c, t.call b = some c → c.reserved ≤ 16

/-- At most one lookup per lane, and the lane of each waits for its token (R152, R154). Every step keeps it. -/
def Obligations.EveryStepKeepsTheLookupQueue : Prop :=
  ∀ s t : State, LookupLaw s → step s = .next t → LookupLaw t

/-- Every lane and landing setting lies in its range (R40, R207), the calendar in its (R84), and an open call's
effective capacity is 1 to 900 and never above its declared one (R1, R3). Every step keeps each. -/
def Obligations.EveryStepKeepsTheRanges : Prop :=
  ∀ s t : State, step s = .next t →
    (SettingsLaw s → SettingsLaw t) ∧ (CalendarLaw s → CalendarLaw t) ∧ (CapacityLaw s → CapacityLaw t)

/-- No operation programs or erases the active bank (R156), with what keeps it. Every step keeps it. -/
def Obligations.EveryStepSparesTheActiveBank : Prop :=
  ∀ s t : State, ActiveBankLaw s → step s = .next t → ActiveBankLaw t

/-! ## The trip log and the shared judgements -/

/-- The log's requests (R188, R191 to R194): a reservation is granted when the free slots exceed the reserve, and then
raises it by one; a release lowers it; a reserved append takes the next sequence number and lowers the reserve; an
unreserved append is written when the free slots exceed the reserve, and otherwise raises "unlogged records". LOG_DROP
(R197) removes the oldest k records, or refuses a k outside 1 to 1024 or beyond the record count, then an expected
sequence that is not the oldest record's. -/
def Obligations.TripLogTakesItsRequests : Prop :=
  (∀ (s : State) (c : Content),
    (s.log.reserveSlot = if s.log.reserve < 1024 - s.log.records.length
        then some { s.log with reserve := s.log.reserve + 1 } else none)
    ∧ s.releaseSlot = s.withLog { s.log with reserve := s.log.reserve - 1 }
    ∧ s.appendReserved c = s.withLog
        { records := s.log.records ++ [{ seq := s.log.nextSeq, content := c }], reserve := s.log.reserve - 1,
          nextSeq := s.log.nextSeq + 1 }
    ∧ (s.log.reserve < 1024 - s.log.records.length →
        s.appendUnreserved c = s.withLog
          { records := s.log.records ++ [{ seq := s.log.nextSeq, content := c }], reserve := s.log.reserve,
            nextSeq := s.log.nextSeq + 1 })
    ∧ (¬ s.log.reserve < 1024 - s.log.records.length →
        s.appendUnreserved c = s.withStation { s.station with
          stats := { s.station.stats with
            unlogged := if s.station.stats.unlogged < 65535 then s.station.stats.unlogged + 1 else 65535 } }))
  ∧ ∀ (s : State) (a : DropArgs), s.keep.run = .running →
    (¬ (1 ≤ a.k ∧ a.k ≤ 1024 ∧ a.k ≤ s.log.records.length) →
      exec (.logDrop (.fit a)) s = .next (s.answered (.refused .logDrop .badArgument .nothing)))
    ∧ (1 ≤ a.k → a.k ≤ 1024 → a.k ≤ s.log.records.length →
      ((∃ n, a.expected = some n ∧ s.log.records.head?.map (·.seq) ≠ some n) →
        exec (.logDrop (.fit a)) s = .next (s.answered (.refused .logDrop .wrongSequence .nothing)))
      ∧ ((a.expected = none ∨ a.expected = s.log.records.head?.map (·.seq)) →
        exec (.logDrop (.fit a)) s = .next ((s.withLog { s.log with records := s.log.records.drop a.k }).answered
          (.ok .logDrop (.dropped (s.log.records.length - a.k) ((s.log.records.drop a.k).head?.map (·.seq)))))))

/-- The bucket index is the exclusive-or of the five slices of the token id, and the filter test, the lookup and the list
writer use it (R146). -/
def Obligations.BucketIndexFoldsFiveSlices : Prop :=
  (∀ id : TokenId, bucketOf id < 4096
    ∧ bucketOf id = (id.toNat % 4096) ^^^ (id.toNat / 2 ^ 12 % 4096) ^^^ (id.toNat / 2 ^ 24 % 4096)
        ^^^ (id.toNat / 2 ^ 36 % 4096) ^^^ (id.toNat / 2 ^ 48))
  ∧ (∀ l id, (newLookup l id).bucket = bucketOf id ∧ (newLookup l id).nextPage = bucketOf id)
  ∧ (∀ (d : DenyUnit) id, d.noList = false →
      (d.filterTest id = .bitSet ↔ d.activeFilter.getLsbD (bucketOf id) = true))
  ∧ (∀ (d : DenyUnit) (buf : Buffer) (e : DenyEntry),
      (d.takeInto buf e).standbyFilter = d.standbyFilter ||| BitVec.twoPow 4096 (bucketOf e.tokenId)
      ∧ (freshBuffer (bucketOf e.tokenId)).bucket = bucketOf e.tokenId)

/-- The elapsed time of R90, and when a time is within an interval: a last admission makes a tap recent (R132) or a
transfer (R99, R100) while the elapsed time from it is below the interval, and an interval of 0 holds no time. -/
def Obligations.ElapsedTimeIsZeroForTheFuture : Prop :=
  (∀ recorded present : CalTime, recorded.second ≤ 86399 → present.second ≤ 86399 →
    ((recorded.day < present.day ∨ (recorded.day = present.day ∧ recorded.second < present.second)) →
      elapsed recorded present + recorded.second = (present.day - recorded.day) * 86400 + present.second)
    ∧ (¬ (recorded.day < present.day ∨ (recorded.day = present.day ∧ recorded.second < present.second)) →
      elapsed recorded present = 0))
  ∧ (∀ (e : TapEntry) (rc : RoleClass) (now : CalTime) (passback : Nat),
    recentAdmission e rc now 0 = false
    ∧ (e.last = none → recentAdmission e rc now passback = false)
    ∧ ∀ a, e.last = some a →
      (recentAdmission e rc now passback = true ↔ a.roleClass = rc ∧ elapsed a.time now < passback))
  ∧ ∀ (e : Evaluation) (line : Nat) (time : CalTime),
    (e.product.window = 0 → transferFrom e line time = false)
    ∧ (transferFrom e line time = true ↔
      1 ≤ line ∧ line ≤ 15 ∧ 1 ≤ e.line ∧ e.line ≤ 15 ∧ line ≠ e.line
      ∧ elapsed time e.time < e.product.window * 60)

/-- Product resolution (R93, R95 to R97): the entry a code selects, a REDIRECT's band of the day and the code a tap goes
on with; at most five entries are read, so a REDIRECT that leads to itself ends in TABLE_LOOP; a terminal entry is judged
for the medium and then for the role class. -/
def Obligations.RedirectFollowsItsBand : Prop :=
  (∀ (bandStart bandEnd second : Nat),
    (bandStart ≤ bandEnd → (inBand bandStart bandEnd second = true ↔ bandStart ≤ second ∧ second ≤ bandEnd))
    ∧ (bandEnd < bandStart → (inBand bandStart bandEnd second = true ↔ bandStart ≤ second ∨ second ≤ bandEnd))
    ∧ ∀ (t : List FareEntry) (line reads code page index inCode outCode : Nat),
        selectEntry line code = some (page, index) →
        fareAt t page index = .redirect bandStart bandEnd inCode outCode →
        resolveFrom t line second (reads + 1) code
          = resolveFrom t line second reads (if inBand bandStart bandEnd second then inCode else outCode))
  ∧ (∀ (t : List FareEntry) (token : TokenRecord) (rc : RoleClass) (line second page index a z : Nat),
      selectEntry line token.productCode = some (page, index) →
      fareAt t page index = .redirect a z token.productCode token.productCode →
      resolveProduct t token rc line second = .error .tableLoop)
  ∧ (∀ (t : List FareEntry) (line second reads code : Nat),
    (selectEntry line code = if code < 32 then some (0, code) else if line = 0 then none else some (line, code - 32))
    ∧ resolveFrom t line second 0 code = .error .tableLoop
    ∧ (selectEntry line code = none → resolveFrom t line second (reads + 1) code = .error .unknownProduct)
    ∧ ∀ page index, selectEntry line code = some (page, index) →
      (fareAt t page index = .empty → resolveFrom t line second (reads + 1) code = .error .unknownProduct)
      ∧ ∀ kind mask window, fareAt t page index = .terminal kind mask window →
        resolveFrom t line second (reads + 1) code = .ok (page, index, kind, mask, window))
  ∧ ∀ (t : List FareEntry) (token : TokenRecord) (rc : RoleClass) (line second : Nat),
    (∀ r, resolveFrom t line second 5 token.productCode = .error r →
      resolveProduct t token rc line second = .error r)
    ∧ ∀ page index kind mask window,
      resolveFrom t line second 5 token.productCode = .ok (page, index, kind, mask, window) →
      (((token.medium = .code ∧ (kind = .rides ∨ ∃ amount, kind = .value amount))
          ∨ (token.medium = .card ∧ kind = .ticket)) →
        resolveProduct t token rc line second = .error .wrongMedium)
      ∧ ((kind = .pass ∨ (token.medium = .card ∧ (kind = .rides ∨ ∃ amount, kind = .value amount))
          ∨ (token.medium = .code ∧ kind = .ticket)) →
        (((rc = .entry ∧ mask.entry = true) ∨ (rc = .board ∧ mask.board = true)) →
          resolveProduct t token rc line second
            = .ok { page := page, index := index, kind := kind, window := window })
        ∧ (((rc = .entry ∧ mask.entry = false) ∨ (rc = .board ∧ mask.board = false)) →
          resolveProduct t token rc line second = .error .notValidHere))

/-! ## The lane links -/

/-- LANE_STATUS, a bad frame, a frame of an unknown kind and a TAP whose token record is bad (R42, R44, R66): each
forms its reply, the bad ones raise "bad frames", and nothing else changes. -/
def Obligations.LaneFramesWithoutEffectOnlyReply : Prop :=
  ∀ (s : State) (l : LaneId) (fields : List Byte), s.keep.run = .running → (s.lane l).takeHeld = false →
    exec (.laneStatus l) s = .next (s.setLane l { s.lane l with
      reply := some (.status (s.lane l).role (s.lane l).cond.level (s.lane l).cond.blocked (s.lane l).ctx.phase
        ((s.lane l).entries.map fun e => { phase := e.phase, confirmation := e.confirmation, tokenId := e.tokenId })) })
    ∧ exec (.laneBadFrame l) s = .next (s.setLane l { s.lane l with
        stats := { (s.lane l).stats with badFrames := bump (s.lane l).stats.badFrames }, reply := some .badFrame })
    ∧ exec (.laneUnknownMessage l) s = .next (s.setLane l { s.lane l with reply := some .unknownMessage })
    ∧ (decodeToken fields = none →
      exec (.tap l fields) s = .next (s.setLane l { s.lane l with
        stats := { (s.lane l).stats with badFrames := bump (s.lane l).stats.badFrames },
        reply := some .tapBadToken }))

/-- A token record is accepted exactly when it fills its 28 bytes, its id is not 0 and its medium is CARD or CODE (R44,
R224). -/
def Obligations.TokenRecordNeedsAnIdAndAMedium : Prop :=
  ∀ fields : List Byte,
    (decodeToken fields = none ↔
      ¬ (fields.length = 28 ∧ numAt fields 0 7 ≠ 0 ∧ (numAt fields 7 1 = 1 ∨ numAt fields 7 1 = 2)))
    ∧ ∀ t, decodeToken fields = some t →
      t.id.toNat = numAt fields 0 7 ∧ t.productCode ≤ 63 ∧ t.rides ≤ 255 ∧ t.storedValue ≤ 65535
      ∧ t.usesAllowed ≤ 15 ∧ (t.medium = .code → t.last = none)
      ∧ ∀ a, t.last = some a → a.time.second ≤ 86399 ∧ a.landing ≤ 4095 ∧ a.line ≤ 15

/-- A TAP with a good token record starts a new evaluation (R44, R45): "taps" rises, STARTED is the reply; a waiting
evaluation counts as superseded, an offer as dropped, a REFUSE for nothing. The lane's role, settings, sensor and
entries stand, and so do the other lanes, the fare table, the clock and the settings. -/
def Obligations.TapStartsAndEndsWhatTheContextHeld : Prop :=
  ∀ (s : State) (l : LaneId) (fields : List Byte) (token : TokenRecord),
    s.keep.run = .running → (s.lane l).takeHeld = false → decodeToken fields = some token →
    ∃ t, exec (.tap l fields) s = .next t
      ∧ (t.lane l).reply = some .tapStarted ∧ (t.lane l).stats.taps = bump (s.lane l).stats.taps
      ∧ (t.lane l).stats.tapsSuperseded
          = (match (s.lane l).ctx with
            | .waiting _ _ => bump (s.lane l).stats.tapsSuperseded
            | .free | .offer _ | .refused _ => (s.lane l).stats.tapsSuperseded)
      ∧ (t.lane l).stats.offersDropped
          = (match (s.lane l).ctx with
            | .offer _ => bump (s.lane l).stats.offersDropped
            | .free | .waiting _ _ | .refused _ => (s.lane l).stats.offersDropped)
      ∧ (t.lane l).ctx ≠ .free
      ∧ (t.lane l).entries = (s.lane l).entries ∧ (t.lane l).role = (s.lane l).role
      ∧ (t.lane l).settings = (s.lane l).settings ∧ (t.lane l).cond = (s.lane l).cond
      ∧ (∀ k, k ≠ l → t.lane k = s.lane k)
      ∧ t.clock = s.clock ∧ t.keep = s.keep ∧ t.fare = s.fare ∧ t.station.landing = s.station.landing

/-- The instant checks 1 to 7 in their order, each with its reason (R109 to R114, R24): the lane, its list, the clock and
the berth; then the product as R96 and R97 resolve it, the validity days (R92), and the recent-tap table's judgement
(R132). A token that passes them all starts its evaluation with what they found. -/
def Obligations.InstantChecksRefuseInOrder : Prop :=
  ∀ (s : State) (l : LaneId) (token : TokenRecord),
    ((s.lane l).role = .off ∨ (s.lane l).role = .alightA ∨ (s.lane l).role = .alightB →
      ∃ p, s.judgeTap l token = .refuse p .notServing)
    ∧ (((s.lane l).role = .entry ∨ (s.lane l).role = .boardA ∨ (s.lane l).role = .boardB) →
      ((s.lane l).cond.blocked = true → ∃ p, s.judgeTap l token = .refuse p .laneBlocked)
      ∧ ((s.lane l).cond.blocked = false →
        ((2 ≤ (s.lane l).entries.length ∨ ∃ e ∈ (s.lane l).entries, e.phase = .awaitWrite) →
          ∃ p, s.judgeTap l token = .refuse p .laneBusy)
        ∧ (((s.lane l).entries.length ≤ 1 ∧ ∀ e ∈ (s.lane l).entries, e.phase = .awaitPassage) →
          (s.clock.calendar = none → ∃ p, s.judgeTap l token = .refuse p .clockUnset)
          ∧ (s.clock.calendar ≠ none → ∀ b, (s.lane l).role.boards = some b →
            (s.call b = none → ∃ p, s.judgeTap l token = .refuse p .notBoarding)
            ∧ ∀ c, s.call b = some c →
              (c.suspended = true → ∃ p, s.judgeTap l token = .refuse p .linkLost)
              ∧ (c.suspended = false → c.stage = .alighting → ∃ p, s.judgeTap l token = .refuse p .notBoarding)
              ∧ (c.suspended = false → c.stage = .closing ∨ c.stage = .handover →
                ∃ p, s.judgeTap l token = .refuse p .closed))
          ∧ ∀ now rc line, s.clock.calendar = some now →
            (((s.lane l).role = .entry ∧ rc = .entry ∧ line = (s.lane l).settings.homeLine)
              ∨ ∃ b c, (s.lane l).role.boards = some b ∧ s.call b = some c ∧ c.suspended = false
                  ∧ c.stage = .boarding ∧ rc = .board ∧ line = c.line) →
            (∀ r, resolveProduct s.fare token rc line now.second = .error r →
              ∃ p, s.judgeTap l token = .refuse p r)
            ∧ ∀ product, resolveProduct s.fare token rc line now.second = .ok product →
              (now.day < token.validFrom → ∃ p, s.judgeTap l token = .refuse p .notYetValid)
              ∧ (token.validFrom ≤ now.day → token.validUntil < now.day →
                ∃ p, s.judgeTap l token = .refuse p .expired)
              ∧ (token.validFrom ≤ now.day → now.day ≤ token.validUntil →
                ∀ e : Evaluation, e = { token := token, time := now, base := s.now, roleClass := rc, line := line,
                                        product := product } →
                (tapFind s.taps token.id = none →
                  (token.medium = .code → token.usesAllowed = 0 → ∃ p, s.judgeTap l token = .refuse p .spent)
                  ∧ ((token.medium = .card ∨ token.usesAllowed ≠ 0) → s.judgeTap l token = .pass e))
                ∧ ∀ x, tapFind s.taps token.id = some x →
                  (x.held = true → ∃ p, s.judgeTap l token = .refuse p .passback)
                  ∧ (x.held = false →
                    (recentAdmission x rc now s.station.landing.passback = true →
                      ∃ p, s.judgeTap l token = .refuse p .passback)
                    ∧ (recentAdmission x rc now s.station.landing.passback = false →
                      (token.medium = .code → token.usesAllowed ≤ x.uses →
                        ∃ p, s.judgeTap l token = .refuse p .spent)
                      ∧ ((token.medium = .card ∨ x.uses < token.usesAllowed) →
                        s.judgeTap l token = .pass e)))))))

/-- A TAP at a FREE context that an instant check refuses is decided in the TAP (R108, R125, R126): the context holds
the REFUSE with its deny flags clear (R107), "refused" rises, and with "log refusals" on a REFUSAL record is asked for,
after those asked for before (log 34). -/
def Obligations.TapRefusedAtAnInstantCheck : Prop :=
  ∀ (s : State) (l : LaneId) (fields : List Byte) (token : TokenRecord) (p : Progress) (r : Reason),
    s.keep.run = .running → (s.lane l).takeHeld = false → decodeToken fields = some token →
    (s.lane l).ctx = .free → s.judgeTap l token = .refuse p r →
    ∀ t, t = s.setLane l { s.lane l with
        ctx := .refused { tokenId := token.id, arrival := { calendar := s.clock.calendar, base := s.now },
                          roleClass := p.roleClass, line := p.line, product := p.product, reason := r,
                          denyReason := none, flags := .clear, remaining := recordBalance token }
        stats := { (s.lane l).stats with taps := bump (s.lane l).stats.taps, refused := bump (s.lane l).stats.refused }
        reply := some .tapStarted } →
      (s.station.landing.logRefusals = false → exec (.tap l fields) s = .next t)
      ∧ (s.station.landing.logRefusals = true →
        exec (.tap l fields) s = .next (t.askedThen [.refusal s.clock.calendar l token.id r none]))

/-- A TAP that passes checks 1 to 7 with its filter bit set waits for a lookup at the queue's tail (R115, R152), with
its verdict deadline from the lane's setting (R45); a free list flash port decides a grant among the requests (R178). -/
def Obligations.TapWithASetBitWaitsForALookup : Prop :=
  ∀ (s : State) (l : LaneId) (fields : List Byte) (token : TokenRecord) (e : Evaluation),
    s.keep.run = .running → (s.lane l).takeHeld = false → decodeToken fields = some token →
    (s.lane l).ctx = .free → s.judgeTap l token = .pass e → s.deny.filterTest token.id = .bitSet →
    exec (.tap l fields) s = .next (((s.withDeny { s.deny with queue := s.deny.queue ++
        [{ lane := l, tokenId := token.id, bucket := bucketOf token.id, captured := none,
           nextPage := bucketOf token.id, position := 1, reading := false }] }).arbitrate).setLane l { s.lane l with
      ctx := .waiting e (s.now + (s.lane l).settings.verdictDeadline)
      stats := { (s.lane l).stats with taps := bump (s.lane l).stats.taps }
      reply := some .tapStarted })

/-- A TAP at a FREE context that passes checks 1 to 7 with its filter bit clear, or under NO_LIST, is decided in the TAP
on every lane that decides (R108, R115): with the bit clear the claims decide, under NO_LIST with fail policy OPEN the
claims decide with flag UNCHECKED, and under CLOSED it is refused LIST_UNAVAILABLE (R117), with "log refusals" on a
REFUSAL record asked for (R126, log 34). On an ENTRY lane it is ADMIT when its charge and its two claims are granted (R120
to R124): the context holds the offer, the take deadline is one write timeout ahead, the use is held and one slot
reserved. The charge and class are those of R99 to R101, the remaining balance and the new card content those of R102 and
R103. -/
def Obligations.TapAdmittedAtOnceOnAnEntryLane : Prop :=
  (∀ (s : State) (l : LaneId) (fields : List Byte) (token : TokenRecord) (e : Evaluation),
    s.keep.run = .running → (s.lane l).takeHeld = false → decodeToken fields = some token →
    (s.lane l).ctx = .free → s.judgeTap l token = .pass e →
    ∀ u, u = s.setLane l { s.lane l with
        stats := { (s.lane l).stats with taps := bump (s.lane l).stats.taps }
        reply := some .tapStarted } →
      (s.deny.filterTest token.id = .bitClear → exec (.tap l fields) s = .next (u.decideClaims l e .clear))
      ∧ (s.deny.filterTest token.id = .noList →
        (s.station.landing.failPolicy = .opened → exec (.tap l fields) s = .next (u.decideClaims l e .unchecked))
        ∧ (s.station.landing.failPolicy = .closed →
          ∀ t, t = u.refusing l (e.progress .clear) .listUnavailable →
            (s.station.landing.logRefusals = false → exec (.tap l fields) s = .next t)
            ∧ (s.station.landing.logRefusals = true → exec (.tap l fields) s
                = .next (t.askedThen [.refusal (some e.time) l token.id .listUnavailable none])))))
  ∧ (∀ (s : State) (l : LaneId) (fields : List Byte) (token : TokenRecord) (e : Evaluation) (flags : DenyFlags)
    (charge : Nat) (cls : FareClass) (taps : List TapEntry),
    s.keep.run = .running → (s.lane l).takeHeld = false → decodeToken fields = some token →
    (s.lane l).ctx = .free → (s.lane l).role = .entry → s.judgeTap l token = .pass e →
    ((s.deny.filterTest token.id = .bitClear ∧ flags = .clear)
      ∨ (s.deny.filterTest token.id = .noList ∧ s.station.landing.failPolicy = .opened ∧ flags = .unchecked)) →
    chargeOf e s.taps = .ok (charge, cls) → tapClaim s.taps token s.now = .ok taps →
    s.log.reserve < 1024 - s.log.records.length →
    exec (.tap l fields) s
      = .next (((s.withTaps taps).withLog { s.log with reserve := s.log.reserve + 1 }).setLane l { s.lane l with
          ctx := .offer (e.offer flags charge cls s.station.landing.landingId)
          takeDeadline := some (s.now + (s.lane l).settings.writeTimeout)
          stats := { (s.lane l).stats with taps := bump (s.lane l).stats.taps }
          reply := some .tapStarted }))
  ∧ (∀ (e : Evaluation) (taps : List TapEntry),
    (isTransfer e taps = true ↔
      (e.token.medium = .card ∧ (e.product.kind = .rides ∨ ∃ amount, e.product.kind = .value amount)
        ∧ ∃ a, e.token.last = some a ∧ transferFrom e a.line a.time = true)
      ∨ (e.token.medium = .code ∧ e.product.kind = .ticket
        ∧ ∃ x a, tapFind taps e.token.id = some x ∧ x.last = some a ∧ transferFrom e a.line a.time = true))
    ∧ (e.product.kind = .pass → chargeOf e taps = .ok (0, .pass))
    ∧ (e.product.kind ≠ .pass → isTransfer e taps = true → chargeOf e taps = .ok (0, .transfer))
    ∧ (isTransfer e taps = false →
      (e.product.kind = .ticket → chargeOf e taps = .ok (0, .fare))
      ∧ (e.product.kind = .rides → 1 ≤ e.token.rides → chargeOf e taps = .ok (1, .fare))
      ∧ (e.product.kind = .rides → e.token.rides = 0 → chargeOf e taps = .error .noRides)
      ∧ (∀ amount, e.product.kind = .value amount → amount ≤ e.token.storedValue →
        chargeOf e taps = .ok (amount, .fare))
      ∧ ∀ amount, e.product.kind = .value amount → e.token.storedValue < amount →
        chargeOf e taps = .error .lowValue))
  ∧ ∀ (e : Evaluation) (flags : DenyFlags) (charge : Nat) (cls : FareClass) (landingId : Nat) (o : Offer),
    o = e.offer flags charge cls landingId →
    o.tokenId = e.token.id ∧ o.medium = e.token.medium ∧ o.time = e.time ∧ o.base = e.base
    ∧ o.roleClass = e.roleClass ∧ o.line = e.line ∧ o.product = e.product ∧ o.fareClass = cls ∧ o.charge = charge
    ∧ o.flags = flags
    ∧ (e.token.medium = .code → o.remaining = none ∧ o.content = none)
    ∧ (e.token.medium = .card → ∃ left : Balance, o.remaining = some left
      ∧ o.content = some { balance := left, last := { time := e.time, landing := landingId, line := e.line,
                                                      roleClass := e.roleClass } }
      ∧ left.rides = (if e.product.kind = .rides ∧ cls = .fare then e.token.rides - charge else e.token.rides)
      ∧ ((∃ amount, e.product.kind = .value amount) → cls = .fare → left.storedValue = e.token.storedValue - charge)
      ∧ (((∀ amount, e.product.kind ≠ .value amount) ∨ cls ≠ .fare) → left.storedValue = e.token.storedValue))

/-- The claims of a decision (R25, R120 to R125): a charge, a held use or a log slot refused refuses the tap on any lane
that decides; on a boarding lane whose berth is BOARDING, with room the place is held and the context holds the offer,
without room every claim is given back and the tap is refused FULL; a berth that no longer admits gives its own reason
(R24, R123). The REFUSE keeps the deny flags of the check (R107). With "log refusals" on a REFUSAL record is asked for
(R126); after LOG_FULL the log takes it later (R195, log 34). `c` is the berth's record once the lane's own earlier
messages have reached it (log 8). -/
def Obligations.BoardingDecisionClaimsAPlaceOrGivesAllBack : Prop :=
  (∀ (s : State) (l : LaneId) (e : Evaluation) (flags : DenyFlags) (t : State) (r : Reason),
    (s.lane l).takeHeld = false →
    (chargeOf e s.taps = .error r
      ∨ ∃ charge, chargeOf e s.taps = .ok charge ∧ tapClaim s.taps e.token e.base = .error r) →
    t = s.refusing l (e.progress flags) r →
      (s.station.landing.logRefusals = false → s.decideClaims l e flags = t)
      ∧ (s.station.landing.logRefusals = true →
        s.decideClaims l e flags = t.askedThen [.refusal (some e.time) l e.token.id r none]))
  ∧ (∀ (s : State) (l : LaneId) (e : Evaluation) (flags : DenyFlags) (charge : Nat × FareClass)
      (taps : List TapEntry) (t : State),
    (s.lane l).takeHeld = false → chargeOf e s.taps = .ok charge → tapClaim s.taps e.token e.base = .ok taps →
    ¬ s.log.reserve < 1024 - s.log.records.length →
    t = (s.withTaps (tapRelease taps e.token.id)).refusing l (e.progress flags) .logFull →
      (s.station.landing.logRefusals = false → s.decideClaims l e flags = t)
      ∧ (s.station.landing.logRefusals = true →
        s.decideClaims l e flags
          = t.withAsked (s.asked ++ [.refusal (some e.time) l e.token.id .logFull none])))
  ∧ ∀ (s : State) (l : LaneId) (b : BerthId) (e : Evaluation) (flags : DenyFlags) (charge : Nat)
    (cls : FareClass) (taps : List TapEntry),
    (s.lane l).role.boards = some b → (s.lane l).takeHeld = false →
    chargeOf e s.taps = .ok (charge, cls) → tapClaim s.taps e.token e.base = .ok taps →
    s.log.reserve < 1024 - s.log.records.length →
    (∀ c0 c, s.call b = some c0 → c0.suspended = false → c0.stage = .boarding →
      c = c0.takeWhere (fun k => decide (k = l)) →
      (c.onBoard + c.reserved < c.effectiveCap →
        s.decideClaims l e flags
          = (((s.withTaps taps).withLog { s.log with reserve := s.log.reserve + 1 }).setCall b
              (some { c with reserved := c.reserved + 1 })).setLane l { s.lane l with
              ctx := .offer (e.offer flags charge cls s.station.landing.landingId)
              takeDeadline := some (s.now + (s.lane l).settings.writeTimeout) })
      ∧ (c.effectiveCap ≤ c.onBoard + c.reserved →
        ∀ t, t = ((s.withTaps (tapRelease taps e.token.id)).setCall b (some c)).setLane l { s.lane l with
              ctx := .refused ((e.progress flags).refused .full none)
              stats := { (s.lane l).stats with refused := bump (s.lane l).stats.refused } } →
          (s.station.landing.logRefusals = false → s.decideClaims l e flags = t)
          ∧ (s.station.landing.logRefusals = true →
            s.decideClaims l e flags = t.askedThen [.refusal (some e.time) l e.token.id .full none])))
    ∧ ∀ r t, ((s.call b = none ∧ r = .notBoarding)
        ∨ ∃ c, s.call b = some c
            ∧ ((c.suspended = true ∧ r = .linkLost)
              ∨ (c.suspended = false ∧ c.stage = .alighting ∧ r = .notBoarding)
              ∨ (c.suspended = false ∧ (c.stage = .closing ∨ c.stage = .handover) ∧ r = .closed))) →
      t = (s.withTaps (tapRelease taps e.token.id)).refusing l (e.progress flags) r →
        (s.station.landing.logRefusals = false → s.decideClaims l e flags = t)
        ∧ (s.station.landing.logRefusals = true →
          s.decideClaims l e flags = t.askedThen [.refusal (some e.time) l e.token.id r none])

/-- TAKE in each phase (R50 to R52): an offer becomes the youngest entry and its verdict is returned; a REFUSE is
returned; in WAITING_LIST the TAKE is held; in FREE it is answered NO_VERDICT. The entry (R50) is AWAIT_WRITE with a write
deadline for a CARD, AWAIT_PASSAGE with a passage deadline for a CODE, with berth and line on a boarding lane alone. -/
def Obligations.TakeReturnsTheVerdictOrIsHeld : Prop :=
  (∀ (s : State) (l : LaneId), s.keep.run = .running → (s.lane l).takeHeld = false →
    (∀ o, (s.lane l).ctx = .offer o →
      exec (.take l) s = .next (s.setLane l { s.lane l with
        ctx := .free
        takeDeadline := none
        entries := (s.lane l).entries ++ [o.entry (s.lane l).role (s.lane l).settings s.now]
        reply := some (.verdict (offerFrame o)) }))
    ∧ (∀ r, (s.lane l).ctx = .refused r →
      exec (.take l) s = .next (s.setLane l { s.lane l with
        ctx := .free, reply := some (.verdict (refusedFrame r)) }))
    ∧ (∀ e d, (s.lane l).ctx = .waiting e d →
      exec (.take l) s = .next (s.setLane l { s.lane l with takeHeld := true, reply := none }))
    ∧ ((s.lane l).ctx = .free →
      exec (.take l) s = .next (s.setLane l { s.lane l with reply := some (.verdict noVerdictFrame) })))
  ∧ ∀ (o : Offer) (role : Role) (settings : LaneSettings) (now : Nat),
    (o.medium = .card →
      (o.entry role settings now).phase = .awaitWrite ∧ (o.entry role settings now).confirmation = .unconfirmed
      ∧ (o.entry role settings now).deadline = now + settings.writeTimeout)
    ∧ (o.medium = .code →
      (o.entry role settings now).phase = .awaitPassage ∧ (o.entry role settings now).confirmation = .notNeeded
      ∧ (o.entry role settings now).deadline = now + settings.passageTimeout * 1000)
    ∧ (o.entry role settings now).tokenId = o.tokenId ∧ (o.entry role settings now).medium = o.medium
    ∧ (o.entry role settings now).fareClass = o.fareClass ∧ (o.entry role settings now).charge = o.charge
    ∧ (o.entry role settings now).page = o.product.page ∧ (o.entry role settings now).index = o.product.index
    ∧ (o.entry role settings now).flags = o.flags ∧ (o.entry role settings now).tapTime = o.time
    ∧ (role = .entry → (o.entry role settings now).berth = none ∧ (o.entry role settings now).line = none)
    ∧ (role = .boardA →
      (o.entry role settings now).berth = some .berthA ∧ (o.entry role settings now).line = some o.line)
    ∧ (role = .boardB →
      (o.entry role settings now).berth = some .berthB ∧ (o.entry role settings now).line = some o.line)

/-- WROTE ok and the write deadline (R56, R57, R59): the AWAIT_WRITE entry goes to AWAIT_PASSAGE, CONFIRMED or
UNCONFIRMED, with a passage deadline from the lane's setting; without such an entry WROTE is answered NOTHING_PENDING. -/
def Obligations.WriteReportOrDeadlineMovesTheEntry : Prop :=
  ∀ (s : State) (l : LaneId), s.keep.run = .running →
    (∀ older e younger, (s.lane l).entries = older ++ e :: younger → (∀ x ∈ older, x.phase = .awaitPassage) →
      e.phase = .awaitWrite →
      ((s.lane l).takeHeld = false →
        exec (.wroteOk l) s = .next (s.setLane l { s.lane l with
          entries := older ++ { e with phase := .awaitPassage, confirmation := .confirmed,
                                       deadline := s.now + (s.lane l).settings.passageTimeout * 1000 } :: younger
          reply := some .wroteOk }))
      ∧ (e.deadline ≤ s.now →
        exec (.writeDeadline l) s = .next (s.setLane l { s.lane l with
          entries := older ++ { e with phase := .awaitPassage, confirmation := .unconfirmed,
                                       deadline := s.now + (s.lane l).settings.passageTimeout * 1000 } :: younger })))
    ∧ ((∀ x ∈ (s.lane l).entries, x.phase = .awaitPassage) → (s.lane l).takeHeld = false →
      exec (.wroteOk l) s = .next (s.setLane l { s.lane l with reply := some .wroteNothingPending })
      ∧ exec (.wroteFailed l) s = .next (s.setLane l { s.lane l with reply := some .wroteNothingPending }))

/-- WROTE failed and the passage deadline void their entry (R58, R60, R62): the VOID record, with charge 0 for
WRITE_FAILED, goes into the entry's slot, the held use is released, "voided" rises, and the berth of a boarding lane is
sent a release. -/
def Obligations.WriteFailureOrPassageDeadlineVoids : Prop :=
  ∀ (s : State) (l : LaneId) (older younger : List Entry) (e : Entry), s.keep.run = .running →
    (s.lane l).entries = older ++ e :: younger →
    ((∀ x ∈ older, x.phase = .awaitPassage) → e.phase = .awaitWrite → (s.lane l).takeHeld = false →
      exec (.wroteFailed l) s = .next (((((s.withLog
          { records := s.log.records ++ [{ seq := s.log.nextSeq, content :=
              (.void s.clock.calendar l e.berth e.tokenId e.page e.index 0 e.confirmation .writeFailed) }],
            reserve := s.log.reserve - 1, nextSeq := s.log.nextSeq + 1 }).withTaps
          (tapRelease s.taps e.tokenId)).setLane l { s.lane l with
            entries := older ++ younger
            stats := { (s.lane l).stats with voided := bump (s.lane l).stats.voided }
            reply := some .wroteOk })).sendHolding e.berth l .release))
    ∧ (∀ which, (which = .older → older = []) → (which = .younger → older.length = 1) →
      e.phase = .awaitPassage → e.deadline ≤ s.now →
      exec (.passageDeadline l which) s = .next (((((s.withLog
          { records := s.log.records ++ [{ seq := s.log.nextSeq, content :=
              (.void s.clock.calendar l e.berth e.tokenId e.page e.index e.charge e.confirmation .noPassage) }],
            reserve := s.log.reserve - 1, nextSeq := s.log.nextSeq + 1 }).withTaps
          (tapRelease s.taps e.tokenId)).setLane l { s.lane l with
            entries := older ++ younger
            stats := { (s.lane l).stats with voided := bump (s.lane l).stats.voided } })).sendHolding
          e.berth l .release))

/-- The take deadline drops the offer (R47, R49): its held use, its log slot and, on a boarding lane, its place are
released, no record is written, and "offers dropped" rises. -/
def Obligations.TakeDeadlineDropsTheOffer : Prop :=
  ∀ (s : State) (l : LaneId) (o : Offer) (deadline : Nat), s.keep.run = .running → (s.lane l).ctx = .offer o →
    (s.lane l).takeDeadline = some deadline → deadline ≤ s.now →
    exec (.takeDeadline l) s = .next ((((s.withTaps (tapRelease s.taps o.tokenId)).withLog
        { s.log with reserve := s.log.reserve - 1 }).setLane l { s.lane l with
          ctx := .free
          takeDeadline := none
          stats := { (s.lane l).stats with offersDropped := bump (s.lane l).stats.offersDropped } }).sendHolding
        (s.lane l).role.boards l .release)

/-- The verdict deadline (R118, R117): the lane's lookup is withdrawn, "deadline decisions" rises, and the fail policy
decides: under CLOSED the tap is refused LIST_UNAVAILABLE, under OPEN the claims decide with flag UNCHECKED (R120 to
R125). A TAKE held at the lane is answered as it would be after the decision (R51). The withdrawal (R154): a queued lookup
leaves the queue; a read in progress runs on for nobody, and so does one the port had granted it (R178, log 19). -/
def Obligations.VerdictDeadlineAppliesTheFailPolicy : Prop :=
  (∀ (s : State) (l : LaneId) (e : Evaluation) (deadline : Nat), s.keep.run = .running →
    (s.lane l).ctx = .waiting e deadline → deadline ≤ s.now →
    (∃ t, exec (.verdictDeadline l) s = .next t
      ∧ (t.lane l).stats.deadlineDecisions = bump (s.lane l).stats.deadlineDecisions
      ∧ t.deny.queue = s.deny.queue.filter (fun q => decide (q.lane ≠ l))
      ∧ t.port = (s.withdrawLookup l).port
      ∧ (t.lane l).takeHeld = false
      ∧ (∀ k, k ≠ l → t.lane k = s.lane k)
      ∧ (s.station.landing.failPolicy = .closed → (s.lane l).takeHeld = false →
          (t.lane l).ctx = .refused ((e.progress .clear).refused .listUnavailable none) ∧ t.taps = s.taps
          ∧ t.berths = s.berths)
      ∧ (s.station.landing.failPolicy = .closed → (s.lane l).takeHeld = true →
          (t.lane l).ctx = .free
          ∧ (t.lane l).reply
            = some (.verdict (refusedFrame ((e.progress .clear).refused .listUnavailable none))))
      ∧ (s.station.landing.failPolicy = .opened → (s.lane l).takeHeld = false →
          (∃ charge cls, (t.lane l).ctx = .offer (e.offer .unchecked charge cls s.station.landing.landingId))
          ∨ ∃ r, (t.lane l).ctx = .refused ((e.progress .unchecked).refused r none)))
    ∧ ∀ decided, ((s.station.landing.failPolicy = .closed
          ∧ decided = (s.deadlineTaken l).decideRefuse l (e.progress .clear) .listUnavailable none)
        ∨ (s.station.landing.failPolicy = .opened
          ∧ decided = (s.deadlineTaken l).decideClaims l e .unchecked)) →
      ((s.lane l).takeHeld = false → exec (.verdictDeadline l) s = .next decided)
      ∧ ((s.lane l).takeHeld = true → exec (.verdictDeadline l) s = exec (.take l) decided))
  ∧ ∀ (s : State) (l : LaneId) (queue : List Lookup),
    queue = s.deny.queue.filter (fun q => decide (q.lane ≠ l)) →
    (s.withdrawLookup l).deny.queue = queue
    ∧ ((∀ q ∈ s.deny.queue, q.lane ≠ l) → s.withdrawLookup l = s)
    ∧ ((∃ q ∈ s.deny.queue, q.lane = l ∧ q.reading = true) → ∀ page, s.port.op = some (.pageRead .lookup page) →
      s.withdrawLookup l = (s.withDeny { s.deny with queue := queue }).withPort
        { s.port with op := some (.pageRead .withdrawn page) })
    ∧ ((∀ q ∈ s.deny.queue, q.lane = l → q.reading = false) →
      (s.port.op ≠ none ∨ s.port.due = none ∨ s.port.due = some .job ∨ s.deny.queue.head?.map (·.lane) ≠ some l) →
      s.withdrawLookup l = s.withDeny { s.deny with queue := queue })
    ∧ ∀ q rest jobWaits, s.deny.queue = q :: rest → q.lane = l → s.port.op = none →
      s.port.due = some (.lookup jobWaits) →
      ∀ t, t = (s.withDeny { s.deny with queue := queue }).withPort { s.port with
          op := some (.pageRead .withdrawn (bankFlashPage (q.captured.getD s.deny.selector) q.nextPage)), due := none
          streak := if jobWaits then min 8 (s.port.streak + 1) else s.port.streak } →
        (q.captured ≠ none → s.withdrawLookup l = t)
        ∧ (q.captured = none → s.withdrawLookup l = t.count fun x =>
            { x with lookupsStarted := bump x.lookupsStarted })

/-! ## The dock links and the berths -/

/-- RAMP_OPEN in every state of the berth (R12, R21): in ALIGHTING the berth moves to BOARDING and admits from then on.
The good frame moves the silence deadline (R6). -/
def Obligations.RampOpenMovesAlightingToBoarding : Prop :=
  ∀ (s : State) (b : BerthId), s.keep.run = .running →
    (s.call b = none →
      exec (.rampOpen b (.fit ())) s = .next (s.docked b none (some (.rampWrongState .vacant))))
    ∧ ∀ c, s.call b = some c →
      (c.suspended = true →
        exec (.rampOpen b (.fit ())) s = .next (s.docked b (some c) (some (.rampNeedArrive .suspended))))
      ∧ (c.suspended = false → ∀ d, d = { c with silenceDeadline := some (s.now + 3000) } →
        (c.stage = .alighting →
          exec (.rampOpen b (.fit ())) s
            = .next ((s.docked b (some { d with stage := .boarding }) (some (.rampOk .boarding))).latchBerthEvent)
          ∧ admissionRefusal (some { d with stage := .boarding }) = none)
        ∧ (c.stage = .boarding →
          exec (.rampOpen b (.fit ())) s = .next (s.docked b (some d) (some (.rampAlready .boarding))))
        ∧ (c.stage = .closing →
          exec (.rampOpen b (.fit ())) s = .next (s.docked b (some d) (some (.rampWrongState .closing))))
        ∧ (c.stage = .handover →
          exec (.rampOpen b (.fit ())) s = .next (s.docked b (some d) (some (.rampWrongState .handover)))))

/-- COUNT_QUERY in every state (R15): it changes nothing but the silence deadline, and in SUSPENDED not even that. -/
def Obligations.CountQueryAnswersInEveryState : Prop :=
  ∀ (s : State) (b : BerthId), s.keep.run = .running →
    (s.call b = none →
      exec (.countQuery b (.fit ())) s
        = .next (s.docked b none (some (.count .vacant none 0 0 0 0 0 0 false))))
    ∧ ∀ c, s.call b = some c →
      (c.suspended = true →
        exec (.countQuery b (.fit ())) s = .next (s.docked b (some c)
          (some (.count .suspended (some c.stage) c.onBoard c.reserved c.boarded c.alighted c.tailgates
            c.effectiveCap c.isOver))))
      ∧ (c.suspended = false →
        exec (.countQuery b (.fit ())) s = .next (s.docked b (some { c with silenceDeadline := some (s.now + 3000) })
          (some (.count (callState (some c)) none c.onBoard c.reserved c.boarded c.alighted c.tailgates
            c.effectiveCap c.isOver))))

/-- DEPART_REQ in every state (R13, R16, R21): in ALIGHTING or BOARDING it closes the berth, straight to HANDOVER when
nothing is reserved, otherwise to CLOSING with a deadline one closing grace ahead. Wherever the call is not suspended,
the good frame moves the silence deadline (R6). -/
def Obligations.DepartReqClosesTheBerth : Prop :=
  ∀ (s : State) (b : BerthId), s.keep.run = .running →
    (s.call b = none →
      exec (.departReq b (.fit ())) s = .next (s.docked b none (some (.departWrongState .vacant))))
    ∧ ∀ c, s.call b = some c →
      (c.suspended = true →
        exec (.departReq b (.fit ())) s = .next (s.docked b (some c) (some (.departNeedArrive .suspended))))
      ∧ (c.suspended = false → ∀ d, d = { c with silenceDeadline := some (s.now + 3000) } →
        ((c.stage = .alighting ∨ c.stage = .boarding) →
          (c.reserved = 0 →
            exec (.departReq b (.fit ())) s = .next ((s.docked b (some { d with stage := .handover })
              (some (.departHandover .handover c.onBoard c.boarded c.alighted c.tailgates c.unmatched))).latchBerthEvent))
          ∧ (c.reserved ≠ 0 →
            exec (.departReq b (.fit ())) s = .next ((s.docked b
              (some { d with
                stage := .closing
                closingDeadline := some (s.now + c.grace.getD s.station.landing.closingGrace * 1000) })
              (some (.departClosing .closing c.reserved))).latchBerthEvent)))
        ∧ (c.stage = .closing →
          exec (.departReq b (.fit ())) s = .next (s.docked b (some d) (some (.departClosing .closing c.reserved))))
        ∧ (c.stage = .handover →
          exec (.departReq b (.fit ())) s = .next (s.docked b (some d)
            (some (.departHandover .handover c.onBoard c.boarded c.alighted c.tailgates c.unmatched)))))

/-- HANDOVER_TAKEN in every state (R14, R8, R21): in HANDOVER the call ends with its DEPARTURE record, NO_HANDOVER
clear, and the berth is VACANT with its plan kept. -/
def Obligations.HandoverTakenEndsTheCall : Prop :=
  ∀ (s : State) (b : BerthId), s.keep.run = .running →
    (s.call b = none →
      exec (.handoverTaken b (.fit ())) s = .next (s.docked b none (some (.handoverWrongState .vacant))))
    ∧ ∀ c, s.call b = some c →
      (c.suspended = true →
        exec (.handoverTaken b (.fit ())) s = .next (s.docked b (some c) (some (.handoverNeedArrive .suspended))))
      ∧ (c.suspended = false → c.stage = .handover →
        exec (.handoverTaken b (.fit ())) s = .next ((((s.withLog
          { records := s.log.records ++ [{ seq := s.log.nextSeq, content := (.departure
              { vesselId := c.vesselId, line := c.line, arrival := c.arrival, departure := s.clock.calendar,
                arrivalOnBoard := c.arrivalOnBoard, boarded := c.boarded, alighted := c.alighted,
                unmatched := c.unmatched, tailgates := c.tailgates, onBoard := c.onBoard, noHandover := false }) }]
            reserve := s.log.reserve - 1
            nextSeq := s.log.nextSeq + 1 }).docked b none (some (.handoverOk .vacant)))).latchBerthEvent))
      ∧ (c.suspended = false → c.stage ≠ .handover →
        exec (.handoverTaken b (.fit ())) s = .next (s.docked b
          (some { c with silenceDeadline := some (s.now + 3000) }) (some (.handoverWrongState (callState (some c))))))

/-- ARRIVE at a VACANT berth (R9, R10): BAD_ARRIVAL for a field outside its range, LOG_FULL without room, and otherwise
the call opens in ALIGHTING, with the staged plan applied and removed when it expects this vessel or none. -/
def Obligations.ArriveAtVacantOpensTheCall : Prop :=
  ∀ (s : State) (b : BerthId) (a : ArriveArgs), s.keep.run = .running → s.call b = none →
    (¬ (1 ≤ a.vesselId ∧ a.vesselId ≤ 65535 ∧ 1 ≤ a.line ∧ a.line ≤ 15 ∧ 1 ≤ a.capacity ∧ a.capacity ≤ 900) →
      exec (.arrive b (.fit a)) s = .next (s.docked b none (some (.arriveRefused .vacant .badArrival))))
    ∧ ((1 ≤ a.vesselId ∧ a.vesselId ≤ 65535 ∧ 1 ≤ a.line ∧ a.line ≤ 15 ∧ 1 ≤ a.capacity ∧ a.capacity ≤ 900) →
      (¬ s.log.reserve < 1024 - s.log.records.length →
        exec (.arrive b (.fit a)) s = .next (s.docked b none (some (.arriveRefused .vacant .logFull))))
      ∧ (s.log.reserve < 1024 - s.log.records.length →
        ∀ (c : Call), c =
          { stage := .alighting, suspended := false, vesselId := a.vesselId, line := a.line,
            declaredCap := a.capacity, effectiveCap := a.capacity, arrivalOnBoard := a.onBoard.toNat,
            onBoard := a.onBoard.toNat, reserved := 0, boarded := 0, alighted := 0, unmatched := 0, tailgates := 0,
            arrival := s.clock.calendar, isOver := decide (a.capacity < a.onBoard.toNat), grace := none,
            closingDeadline := none, silenceDeadline := some (s.now + 3000), inFlight := [] } →
        (((s.berth b).plan = none ∨ ∃ p v, (s.berth b).plan = some p ∧ p.vesselId = some v ∧ v ≠ a.vesselId) →
          exec (.arrive b (.fit a)) s
            = .next (((s.withLog { s.log with reserve := s.log.reserve + 1 }).docked b (some c)
                (some (.arriveAccepted .alighting false a.capacity a.line))).latchBerthEvent))
        ∧ (∀ p, (s.berth b).plan = some p → (p.vesselId = none ∨ p.vesselId = some a.vesselId) →
          exec (.arrive b (.fit a)) s
            = .next (((s.withLog { s.log with reserve := s.log.reserve + 1 }).setBerth b
                { call := some { c with
                    effectiveCap := min a.capacity (p.cap.getD a.capacity)
                    line := p.line.getD a.line
                    grace := p.grace
                    isOver := decide (min a.capacity (p.cap.getD a.capacity) < a.onBoard.toNat) }
                  plan := none
                  reply := some (.arriveAccepted .alighting true (min a.capacity (p.cap.getD a.capacity))
                    (p.line.getD a.line)) }).latchBerthEvent))))

/-- ARRIVE at an open call (R11, R22, R23 step 1): ALREADY or BERTH_OCCUPIED when the call is not suspended; in
SUSPENDED the same vessel resumes it, whatever the other fields, and another vessel with a bad field is refused. -/
def Obligations.ArriveAtAnOpenCallKeepsIt : Prop :=
  ∀ (s : State) (b : BerthId) (a : ArriveArgs) (c : Call), s.keep.run = .running → s.call b = some c →
    (c.suspended = false → a.vesselId = c.vesselId →
      exec (.arrive b (.fit a)) s = .next (s.docked b (some { c with silenceDeadline := some (s.now + 3000) })
        (some (.arriveAlready (callState (some c)) c.effectiveCap c.line c.onBoard))))
    ∧ (c.suspended = false → a.vesselId ≠ c.vesselId →
      exec (.arrive b (.fit a)) s = .next (s.docked b (some { c with silenceDeadline := some (s.now + 3000) })
        (some (.arriveRefused (callState (some c)) .berthOccupied))))
    ∧ (c.suspended = true → a.vesselId = c.vesselId →
      exec (.arrive b (.fit a)) s = .next ((s.docked b
        (some { c with suspended := false, silenceDeadline := some (s.now + 3000) })
        (some (.arriveResumed (callState (some { c with suspended := false })) c.effectiveCap c.line
          c.onBoard))).latchBerthEvent))
    ∧ (c.suspended = true → a.vesselId ≠ c.vesselId →
      ¬ (1 ≤ a.vesselId ∧ a.vesselId ≤ 65535 ∧ 1 ≤ a.line ∧ a.line ≤ 15 ∧ 1 ≤ a.capacity ∧ a.capacity ≤ 900) →
      exec (.arrive b (.fit a)) s = .next (s.docked b (some c) (some (.arriveRefused .suspended .badArrival))))

/-- ARRIVE of another vessel at a suspended call (R23): the old call's holdings end, each entry with its VOID record,
reason LINK_LOST, each lane's older entry first (lanes in order: log 22), and its DEPARTURE record is written with
NO_HANDOVER set; then the vessel arrives at the berth as at one VACANT (R9, R10): the new call is opened when the log has
room for it, or refused LOG_FULL. The law of the places (log 8) rules out states that no run reaches. -/
def Obligations.ArriveReplacesASuspendedVessel : Prop :=
  ∀ (s : State) (b : BerthId) (a : ArriveArgs) (c : Call), s.keep.run = .running → PlaceLaw s →
    s.call b = some c → c.suspended = true → a.vesselId ≠ c.vesselId → arrivalValid a = true →
    ∀ log, log = s.log.afterAppends (s.voidRecords (s.lanesAt b) .linkLost
        ++ [.departure (c.departureContent s.clock.calendar true)]) (s.offerSlots (s.lanesAt b)) →
    ∃ u t, exec (.arrive b (.fit a)) s = .next t ∧ exec (.arrive b (.fit a)) u = .next t
      -- The berth as the old call's end leaves it.
      ∧ u.keep = s.keep ∧ u.clock = s.clock ∧ u.call b = none ∧ (u.berth b).plan = (s.berth b).plan
      ∧ u.log = log ∧ u.station.causes.berthEvent = true ∧ u.station.landing = s.station.landing
      ∧ (∀ l, (s.lane l).role.boards = some b → (u.lane l).holdings = 0)
      ∧ (∀ l, (s.lane l).role.boards ≠ some b → u.lane l = s.lane l)
      ∧ (∀ k, k ≠ b → u.berth k = s.berth k)
      -- The arrival at it.
      ∧ t.lanes = u.lanes ∧ t.taps = u.taps
      ∧ (∃ r d, t.log.records.getLast? = some r ∧ r.content = .departure d ∧ d.vesselId = c.vesselId
          ∧ d.noHandover = true ∧ d.departure = s.clock.calendar)
      ∧ (¬ log.reserve < 1024 - log.records.length →
          t.log = log ∧ t.call b = none ∧ (t.berth b).reply = some (.arriveRefused .vacant .logFull)
          ∧ (t.berth b).plan = (s.berth b).plan)
      ∧ (log.reserve < 1024 - log.records.length →
          t.log = { log with reserve := log.reserve + 1 }
          ∧ ∃ d applied, t.call b = some d ∧ d.vesselId = a.vesselId ∧ d.stage = .alighting ∧ d.suspended = false
            ∧ d.reserved = 0 ∧ d.onBoard = a.onBoard.toNat ∧ d.boarded = 0
            ∧ (t.berth b).reply = some (.arriveAccepted .alighting applied d.effectiveCap d.line))

/-- A bad dock frame gets no reply and changes nothing else (R4); a good frame of an unknown kind, or with fields that do
not fit, is refused and moves the silence deadline alone (R4, R6). -/
def Obligations.DockFramesOutsideTheFiveAreRefused : Prop :=
  ∀ (s : State) (b : BerthId), s.keep.run = .running →
    exec (.dockBadFrame b) s = .next (s.docked b (s.call b) none)
    ∧ ∀ d, d = (s.call b).map (fun c => if c.suspended then c else { c with silenceDeadline := some (s.now + 3000) }) →
      exec (.dockUnknownMessage b) s = .next (s.docked b d (some (.refusedUnknownMessage (callState (s.call b)))))
      ∧ exec (.arrive b .misfit) s = .next (s.docked b d (some (.refusedBadMessage (callState (s.call b)))))
      ∧ exec (.rampOpen b .misfit) s = .next (s.docked b d (some (.refusedBadMessage (callState (s.call b)))))
      ∧ exec (.countQuery b .misfit) s = .next (s.docked b d (some (.refusedBadMessage (callState (s.call b)))))
      ∧ exec (.departReq b .misfit) s = .next (s.docked b d (some (.refusedBadMessage (callState (s.call b)))))
      ∧ exec (.handoverTaken b .misfit) s = .next (s.docked b d (some (.refusedBadMessage (callState (s.call b)))))

/-- Reaching the silence deadline suspends the call (R19): the state becomes the prior state, the silence deadline is
removed (R6) and every other field is kept. -/
def Obligations.SilenceDeadlineSuspendsTheCall : Prop :=
  ∀ (s : State) (b : BerthId) (c : Call) (deadline : Nat), s.keep.run = .running → s.call b = some c →
    c.suspended = false → c.silenceDeadline = some deadline → deadline ≤ s.now →
    exec (.silenceDeadline b) s = .next ((s.setBerth b { s.berth b with
      call := some { c with suspended := true, silenceDeadline := none } }).latchBerthEvent)
    ∧ callState (some { c with suspended := true, silenceDeadline := none }) = .suspended
    ∧ priorState (some { c with suspended := true, silenceDeadline := none }) = some c.stage

/-- Reaching the closing deadline (R7, R18, R20): the boarding lanes' offers and entries end, each entry with its VOID
record, reason CLOSED, each lane's older entry first (lanes in order: log 22), and their held uses are released; the
commits in flight are taken (R17, log 8): on-board and boarded rise by them and OVER is judged; reserved is 0, and the
state, or in SUSPENDED the prior state, is HANDOVER. The law of the places (log 8) rules out states that no run
reaches. -/
def Obligations.ClosingDeadlineReleasesEveryHolding : Prop :=
  ∀ (s : State) (b : BerthId) (c : Call) (deadline : Nat), s.keep.run = .running → PlaceLaw s →
    s.call b = some c → c.stage = .closing → c.closingDeadline = some deadline → deadline ≤ s.now →
    ∀ n, n = c.inFlight.countP (fun m => decide (m.2 = Holding.commit)) →
    ∃ t d, exec (.closingDeadline b) s = .next t ∧ t.call b = some d
      ∧ d.stage = .handover ∧ d.suspended = c.suspended ∧ d.reserved = 0 ∧ d.closingDeadline = none
      ∧ d.inFlight = [] ∧ t.station.causes.berthEvent = true
      ∧ d = { c with
          stage := .handover, reserved := 0, closingDeadline := none, inFlight := []
          onBoard := bumpBy n c.onBoard, boarded := bumpBy n c.boarded
          isOver := if n = 0 then c.isOver else decide (c.effectiveCap < bumpBy n c.onBoard) }
      ∧ (∀ l, (s.lane l).role.boards = some b → (t.lane l).entries = [] ∧ (t.lane l).holdings = 0
        ∧ (t.lane l).stats = { (s.lane l).stats with
            voided := bumpBy (s.lane l).entries.length (s.lane l).stats.voided
            offersDropped := bumpBy (s.lane l).ctx.offers (s.lane l).stats.offersDropped })
      ∧ t.taps = ((s.lanesAt b).flatMap fun l => (s.lane l).heldTokens).foldl tapRelease s.taps
      ∧ (∀ l, (s.lane l).role.boards ≠ some b → t.lane l = s.lane l)
      ∧ t.log = s.log.afterAppends (s.voidRecords (s.lanesAt b) .closed) (s.offerSlots (s.lanesAt b))
      ∧ t.log.records.length = s.log.records.length
          + s.lanes.sum (fun x => if x.role.boards = some b then x.entries.length else 0)
      ∧ (∀ k, k ≠ b → t.call k = s.call k) ∧ t.clock = s.clock

/-- A berth takes the oldest commit or release a lane has in flight (R26, R28, R31): a release gives one place back; a
commit also raises on-board and boarded and judges OVER; in CLOSING, not suspended, the last one moves the berth to
HANDOVER (R17, R20). That commands take the messages of log 8 is the model's. -/
def Obligations.BerthTakesCommitsAndReleases : Prop :=
  ∀ (s : State) (b : BerthId) (l : LaneId) (c : Call) (older younger : List (LaneId × Holding)),
    s.keep.run = .running → s.call b = some c →
    (c.inFlight = older ++ (l, .release) :: younger → (l, Holding.release) ∉ older →
      ∀ d, d = { c with reserved := c.reserved - 1, inFlight := older ++ younger } →
        exec (.berthRelease b l) s = .next (s.setCall b (some
          (if c.stage = .closing ∧ c.suspended = false ∧ c.reserved - 1 = 0
            then { d with stage := .handover, closingDeadline := none } else d))))
    ∧ (c.inFlight = older ++ (l, .commit) :: younger → (l, Holding.commit) ∉ older →
      ∀ d, d = { c with
          reserved := c.reserved - 1, onBoard := bump c.onBoard, boarded := bump c.boarded
          isOver := decide (c.effectiveCap < bump c.onBoard), inFlight := older ++ younger } →
        exec (.berthCommit b l) s = .next (s.setCall b (some
          (if c.stage = .closing ∧ c.suspended = false ∧ c.reserved - 1 = 0
            then { d with stage := .handover, closingDeadline := none } else d))))

/-- When BERTH_EVENT is latched (R37): at a change of the state, at a change of the prior state while SUSPENDED, and at
a setting of OVER. Nothing else of a change of a berth record reaches the causes. A message of a lane joins those in
flight to its berth's open call (log 8) and latches nothing; an ENTRY lane sends none. -/
def Obligations.BerthRecordChangesLatchBerthEvent : Prop :=
  (∀ (s : State) (b : BerthId) (c : Option Call),
    ((callState (s.call b) ≠ callState c ∨ priorState (s.call b) ≠ priorState c
        ∨ (overFlag (s.call b) = false ∧ overFlag c = true)) →
      s.setCall b c = (s.setBerth b { s.berth b with call := c }).latchBerthEvent)
    ∧ (¬ (callState (s.call b) ≠ callState c ∨ priorState (s.call b) ≠ priorState c
        ∨ (overFlag (s.call b) = false ∧ overFlag c = true)) →
      s.setCall b c = s.setBerth b { s.berth b with call := c }))
  ∧ ∀ (s : State) (l : LaneId) (m : Holding),
    s.sendHolding none l m = s
    ∧ ∀ b, (∀ c, s.call b = some c →
        s.sendHolding (some b) l m
          = s.setBerth b { s.berth b with call := some { c with inFlight := c.inFlight ++ [(l, m)] } })
      ∧ (s.call b = none → s.sendHolding (some b) l m = s)

/-! ## Passage sensing, the calendar -/

/-- The raw line and the debounced level (R71, R72, R74): a change away from the debounced level starts an interval, a
change back ends it, an accepted OCCUPIED sets the blocked deadline 60 s ahead, and that deadline sets BLOCKED with
LANE_FAULT. The line is a pin: while no conditioner follows it, outside the running part and the end of a warm restart
(log 14), it moves alone; its present level is no change (logs 7, 29). -/
def Obligations.PassageLineIsDebounced : Prop :=
  ∀ (s : State) (l : LaneId) (x : Lane), x = s.lane l →
    (∀ level, level ≠ x.cond.raw →
      ((s.keep.run = .running ∨ s.keep.run = .warmRestart .record ∨ s.keep.run = .warmRestart .finish) →
        exec (.rawLevelChange l level) s = .next (s.setLane l { x with cond := { x.cond with
          raw := level
          debounceDeadline := if level = x.cond.level then none else some (s.now + x.settings.debounce) } }))
      ∧ (s.keep.run ≠ .running → s.keep.run ≠ .warmRestart .record → s.keep.run ≠ .warmRestart .finish →
        exec (.rawLevelChange l level) s = .next (s.setLane l { x with cond := { x.cond with raw := level } })))
    ∧ exec (.rawLevelChange l x.cond.raw) s = .next s
    ∧ (∀ deadline, s.keep.run = .running → x.cond.debounceDeadline = some deadline → deadline ≤ s.now →
      x.cond.raw = .occupied →
      exec (.debounceDeadline l) s = .next (s.setLane l { x with cond := { x.cond with
        level := .occupied, debounceDeadline := none, occupiedSince := some s.now,
        blockedDeadline := some (s.now + 60000) } }))
    ∧ (∀ deadline, s.keep.run = .running → x.cond.blockedDeadline = some deadline → deadline ≤ s.now →
      exec (.blockedDeadline l) s = .next (s.setLane l { x with cond := { x.cond with
        blocked := true, blockedDeadline := none } }).latchLaneFault)

/-- An accepted change to CLEAR (R73, R75, R76, R81, R30): after BLOCKED it is no passage and latches LANE_FAULT; on an
OFF lane it is ignored; on an alighting lane it lowers on-board and raises alighted, or raises unmatched alights when
on-board is 0, and is a stray passage at a VACANT berth. -/
def Obligations.PassageOffTheGatesFollowsTheRole : Prop :=
  ∀ (s : State) (l : LaneId) (deadline : Nat), s.keep.run = .running →
    (s.lane l).cond.debounceDeadline = some deadline → deadline ≤ s.now → (s.lane l).cond.raw = .clear →
    ((s.lane l).cond.blocked = true →
      exec (.debounceDeadline l) s = .next (s.sensorClear l).latchLaneFault)
    ∧ ((s.lane l).cond.blocked = false →
      ((s.lane l).role = .off → exec (.debounceDeadline l) s = .next (s.sensorClear l))
      ∧ ∀ b, ((s.lane l).role = .alightA ∧ b = .berthA) ∨ ((s.lane l).role = .alightB ∧ b = .berthB) →
        (s.call b = none →
          exec (.debounceDeadline l) s = .next ((s.sensorClear l).count fun x =>
            { x with strayPassages := bump x.strayPassages }))
        ∧ ∀ c, s.call b = some c →
          (0 < c.onBoard → exec (.debounceDeadline l) s = .next ((s.sensorClear l).setCall b
            (some (Call.withOver { c with onBoard := c.onBoard - 1, alighted := bump c.alighted }))))
          ∧ (c.onBoard = 0 → exec (.debounceDeadline l) s = .next ((s.sensorClear l).setCall b
            (some (Call.withOver { c with unmatched := bump c.unmatched })))))

/-- A passage on an ENTRY or boarding lane (R77 to R80, R29): it commits the oldest entry in AWAIT_PASSAGE, with its
BOARD or ENTRY record, its use and its berth's commit, and passes over AWAIT_WRITE; with no such entry it is a
tailgate. -/
def Obligations.PassageCommitsTheOldestOrIsATailgate : Prop :=
  ∀ (s : State) (l : LaneId) (deadline : Nat), s.keep.run = .running →
    (s.lane l).cond.debounceDeadline = some deadline → deadline ≤ s.now → (s.lane l).cond.raw = .clear →
    (s.lane l).cond.blocked = false →
    ((s.lane l).role = .entry ∨ (s.lane l).role = .boardA ∨ (s.lane l).role = .boardB) →
    (∀ older e younger time, (s.lane l).entries = older ++ e :: younger → (∀ x ∈ older, x.phase = .awaitWrite) →
      e.phase = .awaitPassage → s.clock.calendar = some time →
      ∀ (content : CommitContent) (last : TableAdmission) (y : Lane),
        content = { time := some time, lane := l, tokenId := e.tokenId, page := e.page, index := e.index,
                    fareClass := e.fareClass, charge := e.charge, confirmation := e.confirmation, flags := e.flags } →
        last = { time := time, lane := l, berth := e.berth, line := e.line.getD (s.lane l).settings.homeLine,
                 roleClass := if e.berth = none then .entry else .board } →
        y = { (s.sensorClear l).lane l with
          entries := older ++ younger
          stats := { (s.lane l).stats with committed := bump (s.lane l).stats.committed } } →
        exec (.debounceDeadline l) s = .next (((((s.setLane l y).withLog
          { records := s.log.records ++ [{ seq := s.log.nextSeq, content :=
              (match e.berth with | some b => .board b content | none => .entry content) }]
            reserve := s.log.reserve - 1
            nextSeq := s.log.nextSeq + 1 }).withTaps
          (tapCommit s.taps e.tokenId last s.now))).sendHolding e.berth l .commit))
    ∧ ((∀ x ∈ (s.lane l).entries, x.phase = .awaitWrite) →
      ∀ t, t = ((s.sensorClear l).appendUnreserved
          (.tailgate s.clock.calendar l (s.lane l).role.boards)).setLane l { (s.sensorClear l).lane l with
            stats := { (s.lane l).stats with tailgates := bump (s.lane l).stats.tailgates } } →
        ((s.lane l).role = .entry → exec (.debounceDeadline l) s = .next t)
        ∧ ∀ b, (s.lane l).role.boards = some b →
          (s.call b = none →
            exec (.debounceDeadline l) s = .next (t.count fun x =>
              { x with strayPassages := bump x.strayPassages }))
          ∧ ∀ c, s.call b = some c →
            exec (.debounceDeadline l) s = .next (t.setCall b (some (Call.withOver
              { c with onBoard := bump c.onBoard, tailgates := bump c.tailgates }))))

/-- The recent-tap table's events (R134, R135, R137, R138, R140): a claim is refused for a use held or committed since
the TAP, holds a token's use otherwise, and creates an entry, evicting the oldest entry neither held nor pinned when the
table is full; a commit counts the use and keeps a CODE pinned through its pin day (that a CARD's commit leaves the pin as it stands is
log 30); a release gives the use back. -/
def Obligations.TapTableTakesClaimsCommitsAndReleases : Prop :=
  ∀ (t : List TapEntry) (token : TokenRecord) (base : Nat) (pin : Option Nat),
    pin = (match token.medium with | .code => some token.validUntil | .card => none) →
    (∀ e, tapFind t token.id = some e →
      (e.held = true → tapClaim t token base = .error .passback)
      ∧ (∀ c, e.held = false → e.commitTime = some c → base ≤ c → tapClaim t token base = .error .passback)
      ∧ (e.held = false → (∀ c, e.commitTime = some c → c < base) →
        tapClaim t token base = .ok (t.filter (fun x => decide (x.tokenId ≠ e.tokenId))
          ++ [{ e with held := true, medium := token.medium, pinDay := pin }]))
      ∧ (∀ a now, tapCommit t token.id a now = t.filter (fun x => decide (x.tokenId ≠ e.tokenId))
          ++ [{ e with
            held := false, uses := bumpTo 255 e.uses, last := some a, commitTime := some now
            pinned := (match e.medium, e.pinDay with
              | .code, some day => decide (a.time.day ≤ day)
              | .code, none => false
              | .card, _ => e.pinned) }])
      ∧ (e.uses = 0 → tapRelease t token.id = t.filter (fun x => decide (x.tokenId ≠ token.id)))
      ∧ (e.uses ≠ 0 → tapRelease t token.id
          = t.filter (fun x => decide (x.tokenId ≠ e.tokenId)) ++ [{ e with held := false }]))
    ∧ (tapFind t token.id = none →
      tapRelease t token.id = t
      ∧ ∀ e, e = { tokenId := token.id, medium := token.medium, held := true, uses := 0, last := none,
                   commitTime := none, pinDay := pin, pinned := false } →
        (t.length < 512 → tapClaim t token base = .ok (t ++ [e]))
        ∧ (512 ≤ t.length →
          (∀ older x younger, t = older ++ x :: younger → x.held = false → x.pinned = false →
            (∀ y ∈ older, y.held = true ∨ y.pinned = true) →
            tapClaim t token base = .ok (older ++ younger ++ [e]))
          ∧ ((∀ y ∈ t, y.held = true ∨ y.pinned = true) → tapClaim t token base = .error .tableFull)))

/-- A due calendar second (R85) and SET_CLOCK (R86): the second rises, after 86,399 the day; a change of day is handed to
the recent-tap table while the part runs, and is kept for the end of a hold or restart otherwise (R216). It unpins the
entries whose pin day is before the day, and leaves their order, their other fields and the other entries (R139).
SET_CLOCK sets calendar and phase, leaves no second due, and asks for a CLOCK_SET record. That a due second waits for its
event is log 4. -/
def Obligations.CalendarSecondsAndSetClock : Prop :=
  (∀ (taps : List TapEntry) (day : Nat), (tapUnpin taps day).length = taps.length
    ∧ ∀ (i : Nat) (e : TapEntry), taps[i]? = some e →
      ((∃ pin, e.pinDay = some pin ∧ pin < day) → (tapUnpin taps day)[i]? = some { e with pinned := false })
      ∧ ((∀ pin, e.pinDay = some pin → day ≤ pin) → (tapUnpin taps day)[i]? = some e))
  ∧ ∀ s : State,
    (∀ t, s.clock.calendar = some t → 1 ≤ s.clock.secondsDue →
      (t.second < 86398 ∨ (t.second < 86399 ∧ t.day < 65535) →
        exec .calendarSecond s = .next (s.withClock
          { timeBase := s.now, calendar := some { day := t.day, second := t.second + 1 },
            phase := s.clock.phase, secondsDue := s.clock.secondsDue - 1 }))
      ∧ (t.second = 86398 → t.day = 65535 →
        exec .calendarSecond s = .next (s.withClock
          { timeBase := s.now, calendar := some { day := 65535, second := 86399 }, phase := 0, secondsDue := 0 }))
      ∧ (t.second = 86399 → t.day < 65535 →
        ∀ u, u = s.withClock
            { timeBase := s.now, calendar := some { day := t.day + 1, second := 0 },
              phase := s.clock.phase, secondsDue := s.clock.secondsDue - 1 } →
          (s.keep.run = .running → exec .calendarSecond s = .next (u.withTaps (tapUnpin s.taps (t.day + 1))))
          ∧ (s.keep.run ≠ .running → exec .calendarSecond s
              = .next (u.withKeep { s.keep with dayChange := true }))))
    ∧ ((s.clock.secondsDue = 0 ∨ s.clock.calendar = none) → exec .calendarSecond s = .next s)
    ∧ (s.keep.run = .running → ∀ a : ClockArgs,
      (a.day ≤ 65535 → a.second ≤ 86399 →
        ∀ u, u = s.withClock { timeBase := s.now, calendar := some { day := a.day, second := a.second }, phase := 0,
                               secondsDue := 0 } →
          ((∃ t, s.clock.calendar = some t ∧ t.day = a.day) →
            exec (.setClock (.fit a)) s = .next ((u.appendUnreserved
              (.clockSet s.clock.calendar { day := a.day, second := a.second })).answered (.ok .setClock .nothing)))
          ∧ ((∀ t, s.clock.calendar = some t → t.day ≠ a.day) →
            exec (.setClock (.fit a)) s = .next (((u.withTaps (tapUnpin s.taps a.day)).appendUnreserved
              (.clockSet s.clock.calendar { day := a.day, second := a.second })).answered (.ok .setClock .nothing))))
      ∧ (¬ (a.day ≤ 65535 ∧ a.second ≤ 86399) →
        exec (.setClock (.fit a)) s = .next (s.answered (.refused .setClock .badArgument .nothing))))

/-! ## The station port -/

/-- The transfers that reach no owner (R202, R203): an empty one only collects the pending reply, a bad frame is answered
BAD_FRAME, an unknown command UNKNOWN_COMMAND, and each of the 22 commands misshapen BAD_ARGUMENT. -/
def Obligations.StationFramesThatReachNoOwner : Prop :=
  ∀ s : State, s.keep.run = .running →
    exec .emptyFrame s = .next s.collected
    ∧ exec .stationBadFrame s = .next (s.answered .badFrame)
    ∧ (∀ kind, exec (.stationUnknownCommand kind) s
        = .next (s.answered (.refused (.unknown kind) .unknownCommand .nothing)))
    ∧ ∀ c k, (c, k) ∈ [(Instr.readStatus .misfit, Command.readStatus), (.readStats .misfit, .readStats),
        (.setClock .misfit, .setClock), (.setLane .misfit, .setLane), (.setLanding .misfit, .setLanding),
        (.writeFare .misfit, .writeFare), (.readFare .misfit, .readFare), (.stagePlan .misfit, .stagePlan),
        (.cancelPlan .misfit, .cancelPlan), (.setCap .misfit, .setCap), (.closeBerth .misfit, .closeBerth),
        (.reopenBerth .misfit, .reopenBerth), (.forceVacate .misfit, .forceVacate), (.laneClear .misfit, .laneClear),
        (.listBegin .misfit, .listBegin), (.listAdd .misfit, .listAdd), (.listCommit .misfit, .listCommit),
        (.logPeek .misfit, .logPeek), (.logDrop .misfit, .logDrop), (.storeSettings .misfit, .storeSettings),
        (.restart .misfit, .restart), (.rttQuery .misfit, .rttQuery)] →
      exec c s = .next (s.answered (.refused k .badArgument .nothing))

/-- The station's readings (R210, R213, R106, R142, R196): READ_STATUS reports the landing and clears the latched causes,
READ_STATS reports the statistics and with clear zeroes them, READ_FARE, RTT_QUERY and LOG_PEEK change nothing but the
reply. -/
def Obligations.StationReadingsReportTheState : Prop :=
  ∀ s : State, s.keep.run = .running →
    (∃ r, exec (.readStatus (.fit ())) s
          = .next ((s.latch fun _ =>
              { berthEvent := false, laneFault := false, listDone := false, settingsDone := false,
                restarted := false }).answered (.ok .readStatus (.status r)))
      ∧ r.causes = s.station.causes
      ∧ r.watermark = decide (s.station.landing.watermark ≤ s.log.records.length)
      ∧ r.calendar = s.clock.calendar
      ∧ r.resetCause = (match s.keep.resetCause with
          | .powerOn => 1 | .resetLine => 2 | .stationRestart => 3 | .keepLost => 4)
      ∧ (∀ b, r.berths.get b =
          { state := callState (s.call b), prior := priorState (s.call b), vesselId := (s.call b).map (·.vesselId),
            onBoard := (s.call b).map (·.onBoard), reserved := (s.call b).map (·.reserved),
            effectiveCap := (s.call b).map (·.effectiveCap), isOver := overFlag (s.call b),
            planStaged := (s.berth b).plan.isSome })
      ∧ (∀ l, r.lanes.get l =
          { role := (s.lane l).role, blocked := (s.lane l).cond.blocked
            phase := (match (s.lane l).ctx with
              | .free => .free
              | .waiting _ _ => .waitingList
              | .offer _ => .decided
              | .refused _ => .decided)
            entries := (s.lane l).entries.length })
      ∧ r.recordCount = s.log.records.length ∧ r.reserve = s.log.reserve
      ∧ r.oldestSeq = s.log.records.head?.map (·.seq) ∧ r.nextSeq = s.log.nextSeq
      ∧ r.list = { bank := if s.deny.noList then none else some s.deny.selector, generation := s.deny.generation,
                   standby := s.deny.standby, rebuilding := s.deny.rebuild.isSome,
                   totals := if s.deny.standby = .opened ∨ s.deny.standby = .committing then
                       some (s.deny.entriesTaken, s.deny.overflowUsed) else none }
      ∧ r.store = s.port.store ∧ r.source = s.port.source)
    ∧ (∀ clear, ∃ lanes t, exec (.readStats (.fit clear)) s
          = .next (t.answered (.ok .readStats (.stats lanes s.station.stats)))
        ∧ (∀ l, lanes.get l = (s.lane l).stats)
        ∧ (clear = false → t = s)
        ∧ (clear = true → t.station = { s.station with stats := LandingStats.zero }
            ∧ (∀ l, t.lane l = { s.lane l with stats := LaneStats.zero })
            ∧ t.clock = s.clock ∧ t.keep = s.keep ∧ t.berths = s.berths ∧ t.fare = s.fare ∧ t.taps = s.taps
            ∧ t.deny = s.deny ∧ t.port = s.port ∧ t.log = s.log))
    ∧ (∀ a : ReadFareArgs,
        (a.page ≤ 15 → a.index ≤ 31 → exec (.readFare (.fit a)) s
          = .next (s.answered (.ok .readFare (.fare (fareBytes (s.fare.getD (32 * a.page + a.index) .empty))))))
        ∧ (¬ (a.page ≤ 15 ∧ a.index ≤ 31) →
          exec (.readFare (.fit a)) s = .next (s.answered (.refused .readFare .badArgument .nothing))))
    ∧ (∀ k, (1 ≤ k → k ≤ 8 → exec (.logPeek (.fit k)) s
          = .next (s.answered (.ok .logPeek (.records s.log.records.length s.log.reserve
              ((s.log.records.take k).map recordBytes)))))
        ∧ (¬ (1 ≤ k ∧ k ≤ 8) →
          exec (.logPeek (.fit k)) s = .next (s.answered (.refused .logPeek .badArgument .nothing))))
    ∧ exec (.rttQuery (.fit 0)) s = .next (s.answered (.refused .rttQuery .badArgument .nothing))
    ∧ ∀ id, id ≠ 0 → ∃ found, exec (.rttQuery (.fit id)) s = .next (s.answered (.ok .rttQuery (.tapTable s.taps.length
          (s.taps.countP (·.held)) (s.taps.countP (·.pinned)) (s.taps.countP fun e => !e.held && !e.pinned) found)))
        ∧ ((∀ e ∈ s.taps, e.tokenId ≠ id) → found = none)
        ∧ (∀ older e younger, s.taps = older ++ e :: younger → e.tokenId = id → (∀ x ∈ older, x.tokenId ≠ id) →
            found = some { medium := e.medium, held := e.held, uses := e.uses, last := e.last, pinDay := e.pinDay,
                           pinned := e.pinned, ageRank := younger.length })

/-- SET_LANE, SET_LANDING, WRITE_FARE and STORE_SETTINGS (R41, R207, R104, R184): each is refused for a value outside its
range, SET_LANE also BUSY for a change of role at a lane that is not idle, STORE_SETTINGS for a standing job; otherwise
it sets what it carries. That SET_LANE's values are judged before the lane's state is log 36. -/
def Obligations.StationSetsTheSettings : Prop :=
  ∀ s : State, s.keep.run = .running →
    (∀ (a : LaneArgs) (l : LaneId) (role : Role), LaneId.ofCode a.lane = some l → a.role = some role →
      (laneSettingsValid a.settings = false →
        exec (.setLane (.fit a)) s = .next (s.answered (.refused .setLane .badArgument .nothing)))
      ∧ (laneSettingsValid a.settings = true →
        ((role = (s.lane l).role ∨ ((s.lane l).ctx = .free ∧ (s.lane l).entries = [])) →
          exec (.setLane (.fit a)) s = .next ((s.setLane l { s.lane l with role := role, settings := a.settings }).answered
            (.ok .setLane .nothing)))
        ∧ (role ≠ (s.lane l).role → ((s.lane l).ctx ≠ .free ∨ (s.lane l).entries ≠ []) →
          exec (.setLane (.fit a)) s = .next (s.answered (.refused .setLane .busy .nothing)))))
    ∧ (∀ a : LaneArgs, (LaneId.ofCode a.lane = none ∨ a.role = none) →
        exec (.setLane (.fit a)) s = .next (s.answered (.refused .setLane .badArgument .nothing)))
    ∧ (∀ (a : LandingArgs) (policy : FailPolicy) (log : Bool), a.failPolicy = some policy → a.logRefusals = some log →
        1 ≤ a.landingId → a.landingId ≤ 4095 → a.passback ≤ 600 → 1 ≤ a.watermark → a.watermark ≤ 1023 →
        5 ≤ a.closingGrace → a.closingGrace ≤ 60 →
        exec (.setLanding (.fit a)) s = .next ((s.withStation { s.station with landing :=
          { landingId := a.landingId, passback := a.passback, failPolicy := policy, logRefusals := log,
            watermark := a.watermark, closingGrace := a.closingGrace } }).answered (.ok .setLanding .nothing)))
    ∧ (∀ a : LandingArgs, (a.failPolicy = none ∨ a.logRefusals = none ∨ a.landingId = 0 ∨ 4095 < a.landingId
          ∨ 600 < a.passback ∨ a.watermark = 0 ∨ 1023 < a.watermark ∨ a.closingGrace < 5 ∨ 60 < a.closingGrace) →
        exec (.setLanding (.fit a)) s = .next (s.answered (.refused .setLanding .badArgument .nothing)))
    ∧ (∀ a : WriteFareArgs,
        (∀ e, a.page ≤ 15 → a.index ≤ 31 → a.entry.length = 12 → decodeFare a.entry = some e →
          exec (.writeFare (.fit a)) s
            = .next ((s.withFare (s.fare.set (32 * a.page + a.index) e)).answered (.ok .writeFare .nothing)))
        ∧ ((15 < a.page ∨ 31 < a.index ∨ a.entry.length ≠ 12 ∨ decodeFare a.entry = none) →
          exec (.writeFare (.fit a)) s = .next (s.answered (.refused .writeFare .badArgument .nothing))))
    ∧ (s.port.job ≠ none →
        exec (.storeSettings (.fit ())) s = .next (s.answered (.refused .storeSettings .busy .nothing)))
    ∧ (s.port.job = none → ∃ copy, exec (.storeSettings (.fit ())) s
          = .next ((s.withPort { s.port with store := .storing, job := some (.settingsStore copy 0) }).arbitrate.answered
              (.ok .storeSettings .nothing))
        ∧ copy.fare = s.fare
        ∧ (∀ l, copy.lanes.get l = ((s.lane l).role, (s.lane l).settings))
        ∧ copy.landing = s.station.landing)

/-- The station's orders to a berth (R32 to R35, R205): plans are staged and cancelled in every state; SET_CAP lowers or
raises the effective capacity up to the declared one and judges OVER; CLOSE_BERTH closes an ALIGHTING or BOARDING call,
in SUSPENDED with a closing deadline whatever is reserved; REOPEN_BERTH puts a CLOSING call back to BOARDING.
That a bad cap at a VACANT berth is a bad argument (log 31), and the state in the reply in SUSPENDED (log 32), are the
model's choices. -/
def Obligations.StationOrdersABerth : Prop :=
  ∀ (s : State) (code : Nat), s.keep.run = .running →
    (BerthId.ofCode code = none →
      (∀ p, exec (.stagePlan (.fit { berth := code, plan := p })) s
        = .next (s.answered (.refused .stagePlan .badArgument .nothing)))
      ∧ exec (.cancelPlan (.fit code)) s = .next (s.answered (.refused .cancelPlan .badArgument .nothing))
      ∧ (∀ cap, exec (.setCap (.fit { berth := code, cap := cap })) s
        = .next (s.answered (.refused .setCap .badArgument .nothing)))
      ∧ exec (.closeBerth (.fit code)) s = .next (s.answered (.refused .closeBerth .badArgument .nothing))
      ∧ exec (.reopenBerth (.fit code)) s = .next (s.answered (.refused .reopenBerth .badArgument .nothing)))
    ∧ ∀ b, BerthId.ofCode code = some b →
      (∀ p, (planValid p = true → exec (.stagePlan (.fit { berth := code, plan := p })) s
            = .next ((s.setBerth b { s.berth b with plan := some p }).answered (.ok .stagePlan .nothing)))
        ∧ (planValid p = false → exec (.stagePlan (.fit { berth := code, plan := p })) s
            = .next (s.answered (.refused .stagePlan .badArgument .nothing))))
      ∧ exec (.cancelPlan (.fit code)) s
          = .next ((s.setBerth b { s.berth b with plan := none }).answered (.ok .cancelPlan .nothing))
      ∧ (∀ cap, ¬ (1 ≤ cap ∧ cap ≤ 900) → exec (.setCap (.fit { berth := code, cap := cap })) s
          = .next (s.answered (.refused .setCap .badArgument .nothing)))
      ∧ (s.call b = none →
        (∀ cap, 1 ≤ cap → cap ≤ 900 → exec (.setCap (.fit { berth := code, cap := cap })) s
          = .next (s.answered (.refused .setCap .wrongState .nothing)))
        ∧ exec (.closeBerth (.fit code)) s = .next (s.answered (.refused .closeBerth .wrongState .nothing))
        ∧ exec (.reopenBerth (.fit code)) s = .next (s.answered (.refused .reopenBerth .wrongState .nothing)))
      ∧ ∀ c, s.call b = some c →
        (∀ cap, 1 ≤ cap → cap ≤ 900 → exec (.setCap (.fit { berth := code, cap := cap })) s
          = .next ((s.setCall b (some (Call.withOver { c with effectiveCap := min cap c.declaredCap }))).answered
              (.ok .setCap (.cap (min cap c.declaredCap)))))
        ∧ ((c.stage = .closing ∨ c.stage = .handover) →
          exec (.closeBerth (.fit code)) s = .next (s.answered (.refused .closeBerth .wrongState .nothing)))
        ∧ ((c.stage = .alighting ∨ c.stage = .boarding) →
          ∀ d, d = { c with
              stage := .closing
              closingDeadline := some (s.now + c.grace.getD s.station.landing.closingGrace * 1000) } →
            (c.suspended = true → exec (.closeBerth (.fit code)) s
              = .next ((s.setCall b (some d)).answered (.ok .closeBerth (.berthState .suspended))))
            ∧ (c.suspended = false → c.reserved ≠ 0 → exec (.closeBerth (.fit code)) s
              = .next ((s.setCall b (some d)).answered (.ok .closeBerth (.berthState .closing))))
            ∧ (c.suspended = false → c.reserved = 0 → exec (.closeBerth (.fit code)) s
              = .next ((s.setCall b (some { c with stage := .handover })).answered
                  (.ok .closeBerth (.berthState .handover)))))
        ∧ (c.stage = .closing → exec (.reopenBerth (.fit code)) s
            = .next ((s.setCall b (some { c with stage := .boarding, closingDeadline := none })).answered
                (.ok .reopenBerth .nothing)))
        ∧ (c.stage ≠ .closing → exec (.reopenBerth (.fit code)) s
            = .next (s.answered (.refused .reopenBerth .wrongState .nothing)))

/-- FORCE_VACATE (R36) and LANE_CLEAR (R65): the first ends the holdings of a call's boarding lanes, each entry with its
VOID record, reason FORCED (lanes in order: log 22), writes the DEPARTURE record with NO_HANDOVER and leaves the berth
VACANT; the second empties one lane, its entries voided with reason CLEARED, and counts what it voided and dropped. Each
lane's older entry is voided first. That FORCE_VACATE leaves the other berth rests on the law of the places (log 8). -/
def Obligations.ForceVacateAndLaneClearEndTheHoldings : Prop :=
  ∀ s : State, s.keep.run = .running →
    (∀ code, BerthId.ofCode code = none →
      exec (.forceVacate (.fit code)) s = .next (s.answered (.refused .forceVacate .badArgument .nothing)))
    ∧ (∀ code b, BerthId.ofCode code = some b →
      (s.call b = none →
        exec (.forceVacate (.fit code)) s = .next (s.answered (.refused .forceVacate .wrongState .nothing)))
      ∧ ∀ c, s.call b = some c → ∃ t, exec (.forceVacate (.fit code)) s = .next t
        ∧ t.call b = none ∧ (t.berth b).plan = (s.berth b).plan ∧ (t.berth b).reply = (s.berth b).reply
        ∧ t.station.pendingReply = some (.ok .forceVacate (.berthState .vacant))
        ∧ t.station.causes = { s.station.causes with berthEvent := true }
        ∧ (∀ l, (s.lane l).role.boards = some b → (t.lane l).holdings = 0
          ∧ (t.lane l).stats = { (s.lane l).stats with
              voided := bumpBy (s.lane l).entries.length (s.lane l).stats.voided
              offersDropped := bumpBy (s.lane l).ctx.offers (s.lane l).stats.offersDropped })
        ∧ (∀ l, (s.lane l).role.boards ≠ some b → t.lane l = s.lane l)
        ∧ t.log = s.log.afterAppends (s.voidRecords (s.lanesAt b) .forced
            ++ [.departure (c.departureContent s.clock.calendar true)]) (s.offerSlots (s.lanesAt b))
        ∧ t.log.records.length = s.log.records.length + 1
            + s.lanes.sum (fun x => if x.role.boards = some b then x.entries.length else 0)
        ∧ t.taps = ((s.lanesAt b).flatMap fun l => (s.lane l).heldTokens).foldl tapRelease s.taps
        ∧ (PlaceLaw s → ∀ k, k ≠ b → t.berth k = s.berth k)
        ∧ t.clock = s.clock ∧ t.keep = s.keep ∧ t.deny = s.deny ∧ t.port = s.port ∧ t.fare = s.fare)
    ∧ (∀ code, LaneId.ofCode code = none →
      exec (.laneClear (.fit code)) s = .next (s.answered (.refused .laneClear .badArgument .nothing)))
    ∧ ∀ code l, LaneId.ofCode code = some l → ∃ t, exec (.laneClear (.fit code)) s = .next t
      ∧ (t.lane l).ctx = .free ∧ (t.lane l).entries = []
      ∧ t.station.pendingReply
          = some (.ok .laneClear (.cleared (s.lane l).entries.length
              (match (s.lane l).ctx with | .offer _ => true | .free | .waiting _ _ | .refused _ => false)))
      ∧ (t.lane l).role = (s.lane l).role ∧ (t.lane l).settings = (s.lane l).settings
      ∧ (t.lane l).cond = (s.lane l).cond ∧ (∀ k, k ≠ l → t.lane k = s.lane k)
      ∧ (t.lane l).stats = { (s.lane l).stats with
          voided := bumpBy (s.lane l).entries.length (s.lane l).stats.voided
          offersDropped := bumpBy (s.lane l).ctx.offers (s.lane l).stats.offersDropped }
      ∧ t.log = s.log.afterAppends (s.voidRecords [l] .cleared) (s.offerSlots [l])
      ∧ t.taps = (s.lane l).heldTokens.foldl tapRelease s.taps
      ∧ ((∃ e d, (s.lane l).ctx = .waiting e d) →
          t.deny.queue = s.deny.queue.filter (fun q => decide (q.lane ≠ l))
          ∧ ((s.lane l).takeHeld = true →
            (t.lane l).takeHeld = false ∧ (t.lane l).reply = some (.verdict noVerdictFrame)))
      ∧ t.clock = s.clock ∧ t.keep = s.keep ∧ t.fare = s.fare ∧ t.port.job = s.port.job

/-! ## The deny list commands -/

/-- LIST_BEGIN, LIST_ADD and LIST_COMMIT (R157, R160, R161, R163): each is refused outside its standby state; LIST_BEGIN
empties the writer and creates the list erase; LIST_ADD's entry joins the buffer, starts one, or needs a flush, and is
refused ORDER, DUPLICATE, CHAIN_FULL, OVERFLOW_FULL or BUSY; LIST_COMMIT creates the commit. A job created asks the list
flash port, which decides a grant if it is free (R175, R178). That LIST_ADD's state is judged before its entries is log
37. -/
def Obligations.ListCommandsFillTheStandbyBank : Prop :=
  ∀ s : State, s.keep.run = .running →
    ((s.deny.standby = .erasing ∨ s.deny.standby = .opened ∨ s.deny.standby = .committing) →
      exec (.listBegin (.fit ())) s = .next (s.answered (.refused .listBegin .wrongState .nothing)))
    ∧ ((s.deny.standby = .stale ∨ s.deny.standby = .fault) →
      ((s.port.job ≠ none ∨ ∃ q ∈ s.deny.queue, q.captured = some s.deny.selector.other) →
        exec (.listBegin (.fit ())) s = .next (s.answered (.refused .listBegin .busy .nothing)))
      ∧ (s.port.job = none → (∀ q ∈ s.deny.queue, q.captured ≠ some s.deny.selector.other) →
        exec (.listBegin (.fit ())) s = .next (((s.withDeny { s.deny with
          standbyFilter := 0, buffer := none, entriesTaken := 0, overflowUsed := 0, standby := .erasing }).withPort
          { s.port with job := some (.listErase 0) }).arbitrate.answered (.ok .listBegin .nothing))))
    ∧ (s.deny.standby ≠ .opened →
      (∀ es, exec (.listAdd (.fit es)) s = .next (s.answered (.refused .listAdd .wrongState .nothing)))
      ∧ exec (.listCommit (.fit ())) s = .next (s.answered (.refused .listCommit .wrongState .nothing)))
    ∧ (s.deny.standby = .opened →
      (s.deny.generation = 4294967295 →
        exec (.listCommit (.fit ())) s = .next (s.answered (.refused .listCommit .generationLimit .nothing)))
      ∧ (s.deny.generation ≠ 4294967295 →
        (s.port.job ≠ none →
          exec (.listCommit (.fit ())) s = .next (s.answered (.refused .listCommit .busy .nothing)))
        ∧ (s.port.job = none → exec (.listCommit (.fit ())) s
            = .next (((s.withDeny { s.deny with buffer := none, standby := .committing }).withPort
                { s.port with job := some (.commit (s.deny.buffer.map fun buf =>
                    (buf.target, { entries := buf.entries, next := none }))) }).arbitrate.answered
                (.ok .listCommit .nothing))))
      ∧ (∀ es : List AddEntry, (es.length = 0 ∨ 8 < es.length
          ∨ ∃ e ∈ es, e.tokenId = 0 ∨ e.action = none ∨ e.reason = 0 ∨ 127 < e.reason) →
        exec (.listAdd (.fit es)) s = .next (s.answered (.refused .listAdd .badArgument .nothing)))
      ∧ (∀ es : List AddEntry, 1 ≤ es.length → es.length ≤ 8 →
        (∀ e ∈ es, e.tokenId ≠ 0 ∧ e.action ≠ none ∧ 1 ≤ e.reason ∧ e.reason ≤ 127) →
        ∃ t n, exec (.listAdd (.fit es)) s = .next t ∧ t.deny.entriesTaken = s.deny.entriesTaken + n
          ∧ ((n = es.length ∧ t.station.pendingReply = some (.ok .listAdd (.taken n)))
            ∨ (n < es.length ∧ ∃ reason, t.station.pendingReply = some (.refused .listAdd reason (.taken n)))))
      ∧ ∀ (id : TokenId) (action : Action) (reason : Nat), id ≠ 0 → 1 ≤ reason → reason ≤ 127 →
        ∀ c e refused taken flushed,
          c = Instr.listAdd (.fit [{ tokenId := id, action := some action, reason := reason }]) →
          e = ({ tokenId := id, action := action, reason := reason } : DenyEntry) →
          refused = (fun r : StationReason => s.answered (.refused .listAdd r (.taken 0))) →
          taken = (fun (b : Buffer) (used : Nat) => s.withDeny { s.deny with
              buffer := some b
              standbyFilter := s.deny.standbyFilter ||| BitVec.twoPow 4096 (bucketOf id)
              entriesTaken := s.deny.entriesTaken + 1
              overflowUsed := used }) →
          flushed = (fun (t : State) (job : Job) =>
            ((t.withPort { s.port with job := some job }).arbitrate).answered (.ok .listAdd (.taken 1))) →
          (s.deny.buffer = none → exec c s = .next ((taken
            { bucket := bucketOf id, position := 1, target := bucketOf id, entries := [e] }
            s.deny.overflowUsed).answered (.ok .listAdd (.taken 1))))
          ∧ ∀ buf, s.deny.buffer = some buf →
            (bucketOf id < buf.bucket → exec c s = .next (refused .order))
            ∧ (bucketOf id = buf.bucket →
              ((∃ x ∈ buf.entries, x.tokenId = id) → exec c s = .next (refused .duplicate))
              ∧ ((∀ x ∈ buf.entries, x.tokenId ≠ id) →
                (buf.entries.length < 31 →
                  exec c s = .next ((taken { buf with entries := buf.entries ++ [e] } s.deny.overflowUsed).answered
                    (.ok .listAdd (.taken 1))))
                ∧ (31 ≤ buf.entries.length →
                  (buf.position = 3 → exec c s = .next (refused .chainFull))
                  ∧ (buf.position ≠ 3 → s.deny.overflowUsed = 1023 → exec c s = .next (refused .overflowFull))
                  ∧ (buf.position ≠ 3 → s.deny.overflowUsed ≠ 1023 →
                    (s.port.job ≠ none → exec c s = .next (refused .busy))
                    ∧ (s.port.job = none → exec c s = .next (flushed (taken
                        { bucket := buf.bucket, position := buf.position + 1,
                          target := 4096 + s.deny.overflowUsed, entries := [e] } (s.deny.overflowUsed + 1))
                        (.flush buf.target { entries := buf.entries, next := some s.deny.overflowUsed })))))))
            ∧ (buf.bucket < bucketOf id →
              (s.port.job ≠ none → exec c s = .next (refused .busy))
              ∧ (s.port.job = none → exec c s = .next (flushed (taken
                  { bucket := bucketOf id, position := 1, target := bucketOf id, entries := [e] } s.deny.overflowUsed)
                  (.flush buf.target { entries := buf.entries, next := none })))))

/-! ## The list flash port -/

/-- Grants and suspends (R177 to R180). The free port decides its grant among the requests standing, by the streak rule;
decided, the grant stands whatever arrives (log 19) until PORT_GRANT carries it out: the head lookup's read, or the waiting
background operation, which for a suspended erase is its resume. The streak rises while a background operation waits. A
running erase is suspended for a lookup after 2 ms of run, eight times at most; the port that a suspend frees decides its
grant, unless the erase has reached its time limit (R182, log 18). -/
def Obligations.PortGrantsAndSuspends : Prop :=
  (∀ s : State,
    ((s.port.op ≠ none ∨ s.port.due ≠ none) → s.arbitrate = s)
    ∧ (s.port.op = none → s.port.due = none → ∀ decides : Grant → State,
      decides = (fun g => s.withPort { s.port with due := some g }) →
      ((∃ q rest, s.deny.queue = q :: rest ∧ q.reading = false) →
        (s.port.job = none → s.arbitrate = decides (.lookup false))
        ∧ (s.port.job ≠ none → s.port.streak < 8 → s.arbitrate = decides (.lookup true))
        ∧ (s.port.job ≠ none → 8 ≤ s.port.streak → s.arbitrate = decides .job))
      ∧ ((∀ q rest, s.deny.queue = q :: rest → q.reading = true) →
        (s.port.job = none → s.arbitrate = s) ∧ (s.port.job ≠ none → s.arbitrate = decides .job))))
  ∧ ∀ s : State, s.keep.run = .running →
    (s.port.op ≠ none → exec .portGrant s = .next s)
    ∧ (s.port.op = none → exec .portGrant s = exec .portGrant s.arbitrate)
    ∧ (s.port.op = none → s.arbitrate.port.due = none → exec .portGrant s = .next s)
    ∧ (∀ q rest bank jobWaits, s.port.op = none → s.port.due = some (.lookup jobWaits) → s.deny.queue = q :: rest →
      bank = q.captured.getD s.deny.selector →
      ∀ t, t = (s.withDeny { s.deny with queue := { q with captured := some bank, reading := true } :: rest }).withPort
          { s.port with
            op := some (.pageRead .lookup (bankFlashPage bank q.nextPage)), due := none
            streak := if jobWaits then min 8 (s.port.streak + 1) else s.port.streak } →
        (q.captured ≠ none → exec .portGrant s = .next t)
        ∧ (q.captured = none → exec .portGrant s = .next (t.count fun x =>
            { x with lookupsStarted := bump x.lookupsStarted })))
    ∧ (∀ job, s.port.op = none → s.port.due = some .job → s.port.job = some job →
      (∀ h, s.port.held = some h → exec .portGrant s = .next (s.withPort { s.port with
          held := some { h with suspended := false }, op := some (.sectorErase h.sector), due := none,
          runSince := some s.now, streak := 0 }))
      ∧ (s.port.held = none →
        ∀ erase program, erase = (fun sector : Nat => s.withPort { s.port with
            held := some { sector := sector, suspended := false, issued := s.now }, op := some (.sectorErase sector),
            due := none, suspendCount := 0, runSince := some s.now, streak := 0 }) →
          program = (fun (page : Nat) (bytes : Page) => s.withPort { s.port with
            op := some (.pageProgram page bytes s.now), due := none, streak := 0 }) →
          (∀ i, job = .listErase i →
            exec .portGrant s = .next (erase (bankFlashSector s.deny.selector.other (if i = 0 then 319 else i - 1))))
          ∧ (∀ target content, (job = .flush target content ∨ job = .commit (some (target, content))) →
            exec .portGrant s
              = .next (program (bankFlashPage s.deny.selector.other target) (denyPageBytes content)))
          ∧ (job = .commit none → exec .portGrant s
              = .next (program (bankFlashPage s.deny.selector.other 5119)
                  (bankHeaderBytes (s.deny.generation + 1) s.deny.entriesTaken s.deny.overflowUsed)))
          ∧ (∀ r, job = .rebuild → s.deny.rebuild = some r → exec .portGrant s = .next (s.withPort { s.port with
              op := some (.pageRead .rebuild (bankFlashPage s.deny.selector r.position)), due := none, streak := 0 }))
          ∧ (∀ copy i, job = .settingsStore copy i →
            (i < 3 → exec .portGrant s = .next (erase (640 + i)))
            ∧ (3 ≤ i → i < 36 →
              exec .portGrant s = .next (program (10241 + (i - 3)) (imagePageBytes copy (i - 3))))
            ∧ (i = 36 → exec .portGrant s = .next (program 10240 imageHeaderBytes)))))
    ∧ (∀ sector q rest since, s.port.op = some (.sectorErase sector) → s.port.runSince = some since →
      s.deny.queue = q :: rest → q.reading = false →
      (s.port.suspendCount < 8 → since + 2 ≤ s.now →
        exec .suspendIssue s = .next (s.withPort { s.port with op := some (.suspend sector) }))
      ∧ ((8 ≤ s.port.suspendCount ∨ s.now < since + 2) → exec .suspendIssue s = .next s))
    ∧ (∀ sector h t, s.port.op = some (.suspend sector) → s.port.held = some h →
      t = (s.withPort { s.port with
            op := none, due := none, held := some { h with suspended := true }
            suspendCount := s.port.suspendCount + 1 }).count (fun x =>
          { x with eraseSuspends := bump x.eraseSuspends }) →
      (s.now < h.issued + 2000 →
        exec (.suspendEnd .suspended) s = .next t.arbitrate
        ∧ ∀ good, exec (.suspendEnd (.ended good)) s
            = exec (.sectorEraseEnd good) (s.withPort { s.port with op := some (.sectorErase sector) }))
      ∧ (h.issued + 2000 ≤ s.now →
        exec (.suspendEnd .suspended) s = exec .operationTimeLimit t
        ∧ ∀ good, exec (.suspendEnd (.ended good)) s
            = exec .operationTimeLimit (s.withPort { s.port with op := some (.sectorErase sector) })))

/-- The end of a page read (R153, R173, R174, R168, R169): counted, and handed to the head lookup, which ends with its
outcome or goes on to the next page of its chain, to the rebuild scan, or to nobody. The outcome decides the waiting
evaluation (R116, R117). The freed port decides its grant (R178); at the end of a lookup's read, a suspended erase whose
time limit was reached meanwhile ends as at OPERATION_TIME_LIMIT (R182). -/
def Obligations.PageReadReachesItsRequester : Prop :=
  ∀ (s : State) (reads : FlashReads) (page : Nat) (res : PageResult) (n : Nat), s.keep.run = .running →
    judgeReads reads = (res, n) →
    ∀ ends : State → Host.Outcome State Fault Refusal,
    ((∀ h, s.port.held = some h → s.now < h.issued + 2000) → ∀ t, ends t = .next t.arbitrate) →
    ((∃ h, s.port.held = some h ∧ h.issued + 2000 ≤ s.now) → ∀ t, ends t = exec .operationTimeLimit t) →
    (s.port.op = some (.pageRead .withdrawn page) →
      exec (.pageReadEnd reads) s = ends (s.readCounted res n))
    ∧ (∀ q rest e deadline, s.port.op = some (.pageRead .lookup page) → s.deny.queue = q :: rest →
      (s.lane q.lane).ctx = .waiting e deadline →
      ∀ t policy, t = (s.readCounted res n).withDeny { s.deny with queue := rest } →
        policy = (match s.station.landing.failPolicy with
          | .opened => t.decideClaims q.lane e .unchecked
          | .closed => t.decideRefuse q.lane (e.progress .clear) .listUnavailable none) →
        (res = .unreadable → exec (.pageReadEnd reads) s = ends policy)
        ∧ (res = .erased → q.position = 1 → exec (.pageReadEnd reads) s = ends (t.decideClaims q.lane e .clear))
        ∧ (res = .erased → q.position ≠ 1 → exec (.pageReadEnd reads) s = ends policy)
        ∧ ∀ p, res = .good p →
          (decodeDenyPage p = none → exec (.pageReadEnd reads) s = ends policy)
          ∧ ∀ d, decodeDenyPage p = some d →
            (∀ older x younger, d.entries = older ++ x :: younger → x.tokenId = q.tokenId →
              (∀ y ∈ older, y.tokenId ≠ q.tokenId) →
              (x.action = .admitFlag →
                exec (.pageReadEnd reads) s = ends (t.decideClaims q.lane e (.flagged x.reason)))
              ∧ (x.action = .refuse → exec (.pageReadEnd reads) s
                  = ends (t.decideRefuse q.lane (e.progress .clear) .denied (some x.reason))))
            ∧ ((∀ y ∈ d.entries, y.tokenId ≠ q.tokenId) →
              (d.next = none → exec (.pageReadEnd reads) s = ends (t.decideClaims q.lane e .clear))
              ∧ (∀ k, d.next = some k → q.position = 3 → exec (.pageReadEnd reads) s = ends policy)
              ∧ (∀ k, d.next = some k → q.position ≠ 3 → exec (.pageReadEnd reads) s
                  = ends ((s.readCounted res n).withDeny { s.deny with
                      queue := { q with nextPage := 4096 + k, position := q.position + 1, reading := false }
                        :: rest }))))
    ∧ (∀ r fresh, s.port.op = some (.pageRead .rebuild page) → s.deny.rebuild = some r →
      fresh = (if res = .erased then r.fresh else r.fresh ||| BitVec.twoPow 4096 r.position) →
      (r.position < 4095 → exec (.pageReadEnd reads) s
        = .next ((s.readCounted res n).withDeny { s.deny with
            rebuild := some { position := r.position + 1, fresh := fresh } }).arbitrate)
      ∧ (4095 ≤ r.position → exec (.pageReadEnd reads) s
        = .next ((((s.readCounted res n).withDeny { s.deny with activeFilter := fresh, rebuild := none }).withPort
            { s.port with op := none, due := none, job := none, streak := 0 }).latchListDone).arbitrate))

/-- The ends of programs, erases and the reset operation (R158, R162, R164, R165, R182, R184): a good end asks for the
job's next operation or ends the job with its owner's response, a failed one ends it at once with FAULT; the freed port
decides its grant (R178). A time limit is a failed end, with the reset operation issued; an end taken later than its limit
finds an operation that was in progress at it, and one taken at the limit's own millisecond counts (log 27). -/
def Obligations.OperationsEndWithTheirOwnersResponse : Prop :=
  (∀ s : State, s.keep.run = .running →
    ∀ failed : Option FlashOp → State,
    failed = (fun op =>
      match s.port.job with
      | some (.listErase _) | some (.commit _) =>
        ((s.withPort { s.port.jobEnded with op := op }).withDeny { s.deny with standby := .fault }).latchListDone
      | some (.flush _ _) =>
        ((s.withPort { s.port.jobEnded with op := op }).withDeny
          { s.deny with standby := .fault, buffer := none }).latchListDone
      | some (.settingsStore _ _) =>
        (s.withPort { s.port.jobEnded with op := op, store := .fault }).latchSettingsDone
      | some .rebuild | none => s.withPort { s.port.jobEnded with op := op }) →
    (∀ sector h erased, s.port.op = some (.sectorErase sector) → s.port.held = some h →
      erased = { s.port with op := none, due := none, held := none, suspendCount := 0, runSince := none } →
      (s.now ≤ h.issued + 2000 →
        exec (.sectorEraseEnd false) s = .next (failed none).arbitrate
        ∧ (∀ i, s.port.job = some (.listErase i) →
          (i < 319 → exec (.sectorEraseEnd true) s
            = .next (s.withPort { erased with job := some (.listErase (i + 1)) }).arbitrate)
          ∧ (319 ≤ i → exec (.sectorEraseEnd true) s
            = .next (((s.withPort s.port.jobEnded).withDeny { s.deny with standby := .opened }).latchListDone).arbitrate))
        ∧ ∀ copy i, s.port.job = some (.settingsStore copy i) → exec (.sectorEraseEnd true) s
            = .next (s.withPort { erased with job := some (.settingsStore copy (i + 1)) }).arbitrate)
      ∧ (h.issued + 2000 < s.now → ∀ good, exec (.sectorEraseEnd good) s = .next (failed (some .reset))))
    ∧ (∀ page bytes issued, s.port.op = some (.pageProgram page bytes issued) → s.port.held = none →
      s.port.suspendCount = 0 → s.port.runSince = none →
      (s.now ≤ issued + 10 →
        exec (.pageProgramEnd false) s = .next (failed none).arbitrate
        ∧ (∀ target content, s.port.job = some (.flush target content) →
          exec (.pageProgramEnd true) s = .next (s.withPort s.port.jobEnded).arbitrate)
        ∧ (∀ closing, s.port.job = some (.commit (some closing)) → exec (.pageProgramEnd true) s
            = .next (s.withPort { s.port with op := none, due := none, job := some (.commit none) }).arbitrate)
        ∧ (s.port.job = some (.commit none) → exec (.pageProgramEnd true) s
            = .next ((((s.withPort s.port.jobEnded).withDeny { s.deny with
                selector := s.deny.selector.other, noList := false, generation := s.deny.generation + 1,
                activeFilter := s.deny.standbyFilter, standbyFilter := 0, standby := .stale, buffer := none,
                entriesTaken := 0, overflowUsed := 0 }).appendUnreserved
              (.listCommit s.clock.calendar (s.deny.generation + 1) s.deny.entriesTaken)).latchListDone).arbitrate)
        ∧ (∀ copy i, s.port.job = some (.settingsStore copy i) →
          (i < 36 → exec (.pageProgramEnd true) s = .next
            (s.withPort { s.port with op := none, due := none, job := some (.settingsStore copy (i + 1)) }).arbitrate)
          ∧ (36 ≤ i → exec (.pageProgramEnd true) s
            = .next ((s.withPort { s.port.jobEnded with store := .stored }).latchSettingsDone).arbitrate)))
      ∧ (issued + 10 < s.now → ∀ good, exec (.pageProgramEnd good) s = .next (failed (some .reset)))
      ∧ (issued + 10 ≤ s.now → exec .operationTimeLimit s = .next (failed (some .reset)))
      ∧ (s.now < issued + 10 → exec .operationTimeLimit s = .next s))
    ∧ (∀ h, s.port.held = some h → (s.port.op = none ∨ s.port.op = some (.sectorErase h.sector)) →
      (h.issued + 2000 ≤ s.now → exec .operationTimeLimit s = .next (failed (some .reset)))
      ∧ (s.now < h.issued + 2000 → exec .operationTimeLimit s = .next s))
    ∧ (s.port.op = some .reset →
      exec .flashResetEnd s = .next (s.withPort { s.port with op := none, due := none }).arbitrate))
  ∧ ∀ (s : State) (stage : WarmStage), s.keep.run = .warmRestart stage → s.port.op = some .reset →
    exec .flashResetEnd s = .next (s.withPort { s.port with op := none, due := none })

/-! ## Resets -/

/-- The hold (R215, R216, R217; the pins as in logs 7 and 15): an assertion of the reset input or a fall of the core
supply holds the part, abandons the links' and the station's transfers, and leaves the rest: a restart in progress is
abandoned where it stands, its mark with it (R219). A held part acts on nothing but its pins, its supplies and the
calendar, a part in a warm restart on nothing else but the end of the reset operation, and a transfer shifts out idle
bytes (R214, log 26); a dip of the retention supply sets the latch, whatever else stands. -/
def Obligations.ResetLineHoldsThePart : Prop :=
  ∀ s : State,
    (s.keep.resetInput = false → s.keep.coreUp = true → (∀ r, s.keep.run ≠ .held r) →
      ∀ t, t = (s.withStation { s.station with pendingReply := none }).withLanes (s.lanes.map fun x =>
          if x.takeHeld then { x with takeHeld := false, reply := none } else x) →
        exec .resetInputAssert s
          = .next (t.withKeep { s.keep with run := .held .resetLine, resetInput := true })
        ∧ exec .coreSupplyFall s
          = .next (t.withKeep { s.keep with run := .held .resetLine, coreUp := false }))
    ∧ (∀ r, s.keep.run = .held r →
      s.attention = false
      ∧ (∀ c : Instr, Instr.fromOutside c = false → Instr.viaStation c = false → exec c s = .next s)
      ∧ (∀ c : Instr, Instr.viaStation c = true →
        exec c s = .next (s.withStation { s.station with shiftedOut := some .idle }))
      ∧ (s.keep.resetInput = false →
        exec .resetInputAssert s = .next (s.withKeep { s.keep with resetInput := true }))
      ∧ (s.keep.coreUp = true → exec .coreSupplyFall s = .next (s.withKeep { s.keep with coreUp := false }))
      ∧ (s.keep.resetInput = true → s.keep.coreUp = false →
        exec .resetInputRelease s = .next (s.withKeep { s.keep with resetInput := false })
        ∧ exec (.coreSupplyRise false) s = .next (s.withKeep { s.keep with coreUp := true })
        ∧ exec (.coreSupplyRise true) s
          = .next (s.withKeep { s.keep with coreUp := true, run := .held .powerOn })))
    ∧ (∀ stage, s.keep.run = .warmRestart stage →
      (∀ c : Instr, Instr.fromOutside c = false → Instr.viaStation c = false → c ≠ .flashResetEnd →
        exec c s = .next s)
      ∧ ∀ c : Instr, Instr.viaStation c = true →
        exec c s = .next (s.withStation { s.station with shiftedOut := some .idle }))
    ∧ exec .retentionSupplyDip s = .next (s.withKeep { s.keep with latch := true })

/-- A warm restart (R206, R215, R217, R218): RESTART, or the end of a hold, with the latch clear and the mark not COLD, is
judged and stops the work in flight; with no command falling between, its other steps are taken one a millisecond (log
14). It keeps the calls with their counts (R38), the recent-tap entries with a use counted in their order (R144), clock,
settings, latched causes and statistics, ends offers and entries with their VOID records (lanes in order, for the records
and the uses released: log 22) and appends the RESTART record (R68, R200, R201), and has the berths take what was in flight to them (log 9), the log what was asked of it (log 34) and a
transfer what it had begun to shift (R202, log 28). The law of the places (log 8) rules out states that no run
reaches. -/
def Obligations.WarmRestartKeepsAndEnds : Prop :=
  ∀ s : State, s.keep.latch = false → s.keep.mark ≠ .cold → PlaceLaw s →
    ∀ restarts : Instr → ResetCause → Option StationReply → Bool → Bool → Prop,
    restarts = (fun c cause out resetInput coreUp => ∃ t0, exec c s = .next t0 ∧ WarmBegun cause out s t0
      ∧ t0.keep.resetInput = resetInput ∧ t0.keep.coreUp = coreUp
      ∧ (s.pending = [] → ∃ t, stepTimes 5 t0 = .next t ∧ WarmRestarted cause out s t)) →
    (s.keep.run = .running →
      restarts (.restart (.fit ())) .stationRestart (some (s.station.pendingReply.getD .none)) s.keep.resetInput
        s.keep.coreUp)
    ∧ (s.keep.run = .held .resetLine → s.keep.resetInput = true → s.keep.coreUp = true →
      restarts .resetInputRelease .resetLine s.station.shiftedOut false true)
    ∧ (s.keep.run = .held .resetLine → s.keep.resetInput = false → s.keep.coreUp = false →
      restarts (.coreSupplyRise false) .resetLine s.station.shiftedOut false true)

/-- A restart that finds the kept state lost, or that a rise of the core supply with the retention supply low begins, is
a cold start (R215, R217, R220 step 1): cause KEEP_LOST or POWER_ON, every block at its initial value. What a transfer has
shifted out, and the replies sent on the links, stand (R202, log 28). -/
def Obligations.LostStateOrPowerOnStartsCold : Prop :=
  ∀ s : State,
    ((s.keep.latch = true ∨ s.keep.mark = .cold) →
      (s.keep.run = .running → ∃ t, exec (.restart (.fit ())) s = .next t
        ∧ ColdStarted .keepLost (some (s.station.pendingReply.getD .none)) s t)
      ∧ (s.keep.run = .held .resetLine → s.keep.resetInput = true → s.keep.coreUp = true →
        ∃ t, exec .resetInputRelease s = .next t ∧ ColdStarted .keepLost s.station.shiftedOut s t)
      ∧ (s.keep.run = .held .resetLine → s.keep.resetInput = false → s.keep.coreUp = false →
        ∃ t, exec (.coreSupplyRise false) s = .next t ∧ ColdStarted .keepLost s.station.shiftedOut s t))
    ∧ (∀ r, s.keep.run = .held r → s.keep.resetInput = false → s.keep.coreUp = false →
      ∃ t, exec (.coreSupplyRise true) s = .next t ∧ ColdStarted .powerOn s.station.shiftedOut s t)
    ∧ (s.keep.run = .held .powerOn → s.keep.resetInput = true → s.keep.coreUp = true →
      ∃ t, exec .resetInputRelease s = .next t ∧ ColdStarted .powerOn s.station.shiftedOut s t)

/-- The rest of a cold start (R166, R185, R214, R219, R220): the flash ready, the settings image read page by page, the
two bank headers, the end; or, with the flash still busy at 2000 ms, the end without reads, at its timeout or where the
flash shows itself ready later (in the limit's own millisecond either may be taken first: log 27). Transfers shift out idle
bytes meanwhile. The wait counts in empty-queue steps (log 13); after it the reset operation is still in progress (log
20); where the bytes of the image's header and settings page stand is free (log 12). -/
def Obligations.ColdStartReadsTheFlash : Prop :=
  ∀ (s : State) (stage : ColdStage), s.keep.run = .coldStart stage →
    ∀ stageAt : ColdStage → Nat → State → State,
      stageAt = (fun st page u => (u.withKeep { u.keep with run := .coldStart st }).withPort
        { u.port with op := some (.pageRead .startUp page) }) →
    (∀ c : Instr, Instr.viaStation c = true →
      exec c s = .next (s.withStation { s.station with shiftedOut := some .idle }))
    ∧ (∀ waited, stage = .flashReset waited →
      (waited ≤ 2000 → s.port.op = some .reset → exec .flashResetEnd s = .next (stageAt .imageHeader 10240 s))
      ∧ (2000 < waited → s.port.op = some .reset → ∃ t, exec .flashResetEnd s = .next t ∧ ColdEnded none none s t
          ∧ t.port.op = none
          ∧ t.station.stats.unreadablePages = bump (bump (bump s.station.stats.unreadablePages)))
      ∧ (2000 ≤ waited → ∃ t, exec .flashReadyTimeout s = .next t ∧ ColdEnded none none s t
          ∧ t.port.op = s.port.op
          ∧ t.station.stats.unreadablePages = bump (bump (bump s.station.stats.unreadablePages)))
      ∧ (waited < 2000 → exec .flashReadyTimeout s = .next s))
    ∧ ∀ page reads res n u, s.port.op = some (.pageRead .startUp page) → judgeReads reads = (res, n) →
      u = s.readCounted res n →
      (stage = .imageHeader →
        (imageHeaderValid res = true → exec (.pageReadEnd reads) s = .next (stageAt (.imageContent []) 10241 u))
        ∧ (imageHeaderValid res = false → exec (.pageReadEnd reads) s = .next (stageAt .bankHeaderA 5119 u)))
      ∧ (∀ pages, stage = .imageContent pages →
        ((res = .erased ∨ res = .unreadable) → exec (.pageReadEnd reads) s = .next (stageAt .bankHeaderA 5119 u))
        ∧ ∀ p, res = .good p →
          (pages.length < 32 → exec (.pageReadEnd reads) s
            = .next (stageAt (.imageContent (pages ++ [p])) (10241 + (pages.length + 1)) u))
          ∧ (32 ≤ pages.length →
            (imageSettings (pages ++ [p]) = none → exec (.pageReadEnd reads) s = .next (stageAt .bankHeaderA 5119 u))
            ∧ ∀ img, imageSettings (pages ++ [p]) = some img →
              ∃ t, exec (.pageReadEnd reads) s = .next t
                ∧ t.keep.run = .coldStart .bankHeaderA ∧ t.port.op = some (.pageRead .startUp 5119)
                ∧ t.port.source = .image ∧ t.fare = img.fare ∧ t.station.landing = img.landing
                ∧ ∀ l, (t.lane l).role = (img.lanes.get l).1 ∧ (t.lane l).settings = (img.lanes.get l).2))
      ∧ (stage = .bankHeaderA → exec (.pageReadEnd reads) s
          = .next (stageAt (.bankHeaderB (headerGeneration res)) 10239 u))
      ∧ (∀ a, stage = .bankHeaderB a → ∃ t, exec (.pageReadEnd reads) s = .next t
          ∧ ColdEnded a (headerGeneration res) u t ∧ t.port.op = none)
end

