-- ==== Sys2Proof/Laws/Image.lean ====
section
/-!
SUPPORT. What is written can be read: a number in its bytes, a page with its check, the settings image's header and its
page 10,273 wherever their bytes stand (R183, R222), and the check that ends every reply of the station port (R204).
-/
namespace Sys2Proof.Machine

/-! ## Numbers and pages -/

theorem natBytes_one (n : Nat) : natBytes 1 n = [BitVec.ofNat 8 n] := rfl

theorem natBytes_two (n : Nat) : natBytes 2 n = [BitVec.ofNat 8 (n / 256), BitVec.ofNat 8 n] := rfl

theorem bytesToNat_one {n : Nat} (h : n < 256) : bytesToNat [BitVec.ofNat 8 n] = n := by
  simp [bytesToNat]; omega

theorem bytesToNat_two {n : Nat} (h : n < 65536) :
    bytesToNat [BitVec.ofNat 8 (n / 256), BitVec.ofNat 8 n] = n := by
  simp [bytesToNat]; omega

theorem bytesToNat_four {n : Nat} (h : n < 4294967296) : bytesToNat (natBytes 4 n) = n := by
  simp [bytesToNat, natBytes]; omega

/-- The bytes before a check stand first (R222). -/
theorem byteAt_withCheck (bs : List Byte) {i : Nat} (h : i < bs.length) : byteAt (withCheck bs) i = byteAt bs i := by
  simp only [byteAt, withCheck, List.getD_eq_getElem?_getD, List.getElem?_append_left h]

theorem layOut_length (places : Equiv.Perm (Fin 254)) (bs : List Byte) : (layOut places bs).length = 254 :=
  List.length_ofFn

/-- A page's bytes come back from their places (log 12). -/
theorem readPlaces_layOut (places : Equiv.Perm (Fin 254)) {bs : List Byte} (h : bs.length = 254) :
    readPlaces places (withCheck (layOut places bs)) = bs := by
  have hb : ∀ i : Fin 254, byteAt (withCheck (layOut places bs)) (places.symm i) = byteAt bs i := by
    intro i
    have hi : ((places.symm i : Fin 254) : Nat) < (layOut places bs).length := by rw [layOut_length]; exact Fin.isLt _
    rw [byteAt_withCheck _ hi]
    simp only [byteAt, layOut, List.getD_eq_getElem?_getD, List.getElem?_ofFn, Fin.isLt, dite_true, Fin.eta,
      Equiv.apply_symm_apply, Option.getD_some]
  apply List.ext_getElem
  · exact List.length_ofFn.trans h.symm
  · intro i h1 h2
    simp only [readPlaces, List.getElem_ofFn, hb]
    simp only [byteAt, List.getD_eq_getElem?_getD, List.getElem?_eq_getElem h2, Option.getD_some]

/-- A page of 254 bytes and their check passes the check (R173). -/
theorem pageChecks_withCheck {bs : List Byte} (h : bs.length = 254) : pageChecks (withCheck bs) = true := by
  have h1 : (withCheck bs).length = 256 := by simp [withCheck, natBytes_two, h]
  have h2 : (withCheck bs).take 254 = bs := by simp [withCheck, ← h]
  have h3 : (withCheck bs).drop 254 = natBytes 2 (crc16 bs).toNat := by simp [withCheck, ← h]
  have h4 : numAt (withCheck bs) 254 2 = (crc16 bs).toNat := by
    unfold numAt
    rw [h3]
    exact bytesToNat_two (crc16 bs).isLt
  simp [pageChecks, h1, h2, h4]

/-! ## The settings image -/

/-- The header that a store writes reads as a valid one: marker STORED, 33 content pages (R183). -/
theorem imageHeaderBytes_valid : imageHeaderValid (.good imageHeaderBytes) = true := by
  have hl : imageHeaderFields.length = 254 := by
    simp only [imageHeaderFields, natBytes, blanks, List.length_append, List.length_replicate, List.length_cons,
      List.length_nil]
  have h4 : numAt imageHeaderFields 0 4 = Config.storedMarker.toNat := by
    show bytesToNat (natBytes 4 Config.storedMarker.toNat) = _
    exact bytesToNat_four Config.storedMarker.isLt
  have h1 : numAt imageHeaderFields 4 1 = 33 := rfl
  have hr : readPlaces Config.imageHeaderPlaces imageHeaderBytes = imageHeaderFields := readPlaces_layOut _ hl
  show imageHeaderGood (readPlaces Config.imageHeaderPlaces imageHeaderBytes) = true
  rw [hr, imageHeaderGood, h4, h1]
  simp

/-- The header that a store writes is read good at its first read (R173). -/
theorem imageHeaderBytes_reads : judgeOneRead imageHeaderBytes = some (.good imageHeaderBytes) := by
  have hc : pageChecks imageHeaderBytes = true := pageChecks_withCheck (layOut_length _ _)
  have he : pageErased imageHeaderBytes = false := by
    cases hp : pageErased imageHeaderBytes with
    | false => rfl
    | true =>
      exfalso
      simp only [pageErased, Bool.and_eq_true, List.all_eq_true, decide_eq_true_eq] at hp
      have hl : imageHeaderFields.length = 254 := by
        simp only [imageHeaderFields, natBytes, blanks, List.length_append, List.length_replicate, List.length_cons,
          List.length_nil]
      have hr : readPlaces Config.imageHeaderPlaces imageHeaderBytes = imageHeaderFields := readPlaces_layOut _ hl
      have h4 : (readPlaces Config.imageHeaderPlaces imageHeaderBytes)[4]? = some 33 := by rw [hr]; rfl
      have hi : ((Config.imageHeaderPlaces.symm 4 : Fin 254) : Nat) < imageHeaderBytes.length := by rw [hp.1]; omega
      simp only [readPlaces, List.getElem?_ofFn, byteAt, List.getD_eq_getElem?_getD] at h4
      rw [dif_pos (by decide)] at h4
      change some ((imageHeaderBytes[((Config.imageHeaderPlaces.symm 4 : Fin 254) : Nat)]?).getD 0) = some 33 at h4
      rw [List.getElem?_eq_getElem hi, Option.getD_some, hp.2 _ (List.getElem_mem hi)] at h4
      exact absurd h4 (by decide)
  simp [judgeOneRead, he, hc]

theorem roleOfNumber_roleNumber (r : Role) : roleOfNumber (roleNumber r) = some r := by cases r <;> rfl

theorem policyOfNumber_policyNumber (p : FailPolicy) : policyOfNumber (policyNumber p) = some p := by cases p <;> rfl

theorem switchOfNumber_bit (b : Bool) : switchOfNumber (if b then 1 else 0) = some b := by cases b <;> rfl

/-- The bounds of valid lane settings, as their bytes need them. -/
theorem laneSettingsValid_bounds {s : LaneSettings} (h : laneSettingsValid s = true) :
    s.verdictDeadline < 65536 ∧ s.writeTimeout < 65536 ∧ s.passageTimeout < 256 ∧ s.debounce < 256
      ∧ s.homeLine < 256 := by
  simp only [laneSettingsValid, within, Bool.and_eq_true, decide_eq_true_eq] at h
  omega

theorem settingsPageFields_length (c : SettingsCopy) : (settingsPageFields c).length = 254 := by
  simp only [settingsPageFields, laneImageBytes, landingImageBytes, natBytes, blanks, List.length_append,
    List.length_replicate, List.length_cons, List.length_nil]

/-- The eight bytes of a lane read back at its place among the lanes (R183). -/
theorem imageLane_of {bs : List Byte} {k : Nat} {v : Role × LaneSettings} (hv : laneSettingsValid v.2 = true)
    (h : (bs.drop (8 * k)).take 8 = laneImageBytes v) : imageLane bs k = some v := by
  obtain ⟨h1, h2, h3, h4, h5⟩ := laneSettingsValid_bounds hv
  have at_ : ∀ i n, i + n ≤ 8 → (bs.drop (8 * k + i)).take n = ((laneImageBytes v).drop i).take n := by
    intro i n hin
    rw [← h, List.drop_take, List.take_take, List.drop_drop]
    congr 1; omega
  have n1 : numAt bs (8 * k + 1) 2 = v.2.verdictDeadline := by
    unfold numAt; rw [at_ 1 2 (by omega)]; exact bytesToNat_two h1
  have n2 : numAt bs (8 * k + 3) 2 = v.2.writeTimeout := by
    unfold numAt; rw [at_ 3 2 (by omega)]; exact bytesToNat_two h2
  have n3 : numAt bs (8 * k + 5) 1 = v.2.passageTimeout := by
    unfold numAt; rw [at_ 5 1 (by omega)]; exact bytesToNat_one h3
  have n4 : numAt bs (8 * k + 6) 1 = v.2.debounce := by
    unfold numAt; rw [at_ 6 1 (by omega)]; exact bytesToNat_one h4
  have n5 : numAt bs (8 * k + 7) 1 = v.2.homeLine := by
    unfold numAt; rw [at_ 7 1 (by omega)]; exact bytesToNat_one h5
  have n0 : byteAt bs (8 * k) = Config.imageRoleCode (roleNumber v.1) := by
    have hh := at_ 0 1 (by omega)
    simp only [Nat.add_zero, List.drop_zero] at hh
    have h0 : (laneImageBytes v).take 1 = [Config.imageRoleCode (roleNumber v.1)] := rfl
    rw [h0] at hh
    have : (bs.drop (8 * k))[0]? = some (Config.imageRoleCode (roleNumber v.1)) := by
      rw [← List.getElem?_take_of_lt (show 0 < 1 by omega), hh]; rfl
    rw [List.getElem?_drop, Nat.add_zero] at this
    simp [byteAt, List.getD_eq_getElem?_getD, this]
  unfold imageLane
  simp only [n0, n1, n2, n3, n4, n5, Equiv.symm_apply_apply, roleOfNumber_roleNumber]
  rw [if_pos hv]

theorem drop_lane (v : Role × LaneSettings) (r : List Byte) (n : Nat) :
    (laneImageBytes v ++ r).drop (n + 8) = r.drop n := rfl

/-- The landing settings read back (R183, R207). -/
theorem imageLanding_of {bs : List Byte} {x : LandingSettings} (hv : x.valid = true)
    (h : (bs.drop 64).take 9 = landingImageBytes x) : imageLanding bs = some x := by
  have hb := hv
  simp only [LandingSettings.valid, within, Bool.and_eq_true, decide_eq_true_eq] at hb
  have at_ : ∀ i n, i + n ≤ 9 → (bs.drop (64 + i)).take n = ((landingImageBytes x).drop i).take n := by
    intro i n hin
    rw [← h, List.drop_take, List.take_take, List.drop_drop]
    congr 1; omega
  have one : ∀ i b, i < 9 → ((landingImageBytes x).drop i).take 1 = [b] → byteAt bs (64 + i) = b := by
    intro i b hi hb
    have hh := at_ i 1 (by omega)
    rw [hb] at hh
    have : (bs.drop (64 + i))[0]? = some b := by
      rw [← List.getElem?_take_of_lt (show 0 < 1 by omega), hh]; rfl
    rw [List.getElem?_drop, Nat.add_zero] at this
    simp [byteAt, List.getD_eq_getElem?_getD, this]
  have n1 : numAt bs 64 2 = x.landingId := by
    unfold numAt; rw [at_ 0 2 (by omega)]; exact bytesToNat_two (by omega)
  have n2 : numAt bs 66 2 = x.passback := by
    unfold numAt; rw [at_ 2 2 (by omega)]; exact bytesToNat_two (by omega)
  have n3 := one 4 _ (by omega) (show _ = [Config.imagePolicyCode (policyNumber x.failPolicy)] from rfl)
  have n4 := one 5 _ (by omega) (show _ = [Config.imageSwitchCode (if x.logRefusals then 1 else 0)] from rfl)
  have n5 : numAt bs 70 2 = x.watermark := by
    unfold numAt; rw [at_ 6 2 (by omega)]; exact bytesToNat_two (by omega)
  have n6 : numAt bs 72 1 = x.closingGrace := by
    unfold numAt; rw [at_ 8 1 (by omega)]; exact bytesToNat_one (by omega)
  unfold imageLanding
  simp only [n1, n2, n3, n4, n5, n6, Equiv.symm_apply_apply, policyOfNumber_policyNumber, switchOfNumber_bit, landingOf]
  exact if_pos hv

/-- The page 10,273 that a store writes of valid settings reads back as those settings (R183, R184, R185). -/
theorem settingsPageBytes_readBack {c : SettingsCopy} (hl : ∀ l, laneSettingsValid (c.lanes.get l).2 = true)
    (hg : c.landing.valid = true) :
    ∃ bs, readPlaces Config.settingsPagePlaces (settingsPageBytes c) = bs
      ∧ imageLanes bs = some c.lanes ∧ imageLanding bs = some c.landing := by
  refine ⟨settingsPageFields c, readPlaces_layOut _ (settingsPageFields_length c), ?_, ?_⟩
  · have e : settingsPageFields c = laneImageBytes c.lanes.l0 ++ (laneImageBytes c.lanes.l1 ++ (laneImageBytes c.lanes.l2
        ++ (laneImageBytes c.lanes.l3 ++ (laneImageBytes c.lanes.l4 ++ (laneImageBytes c.lanes.l5
        ++ (laneImageBytes c.lanes.l6 ++ (laneImageBytes c.lanes.l7 ++ (landingImageBytes c.landing ++ blanks 181))))))))
        := by simp only [settingsPageFields, List.append_assoc]
    have h0 : imageLane (settingsPageFields c) 0 = some c.lanes.l0 := imageLane_of (hl .l0) (by rw [e]; rfl)
    have h1 : imageLane (settingsPageFields c) 1 = some c.lanes.l1 :=
      imageLane_of (hl .l1) (by rw [e, show 8 * 1 = 0 + 8 from rfl, drop_lane]; rfl)
    have h2 : imageLane (settingsPageFields c) 2 = some c.lanes.l2 :=
      imageLane_of (hl .l2) (by rw [e, show 8 * 2 = 0 + 8 + 8 from rfl, drop_lane, drop_lane]; rfl)
    have h3 : imageLane (settingsPageFields c) 3 = some c.lanes.l3 :=
      imageLane_of (hl .l3) (by rw [e, show 8 * 3 = 0 + 8 + 8 + 8 from rfl, drop_lane, drop_lane, drop_lane]; rfl)
    have h4 : imageLane (settingsPageFields c) 4 = some c.lanes.l4 :=
      imageLane_of (hl .l4)
        (by rw [e, show 8 * 4 = 0 + 8 + 8 + 8 + 8 from rfl]; iterate 4 rw [drop_lane]
            rfl)
    have h5 : imageLane (settingsPageFields c) 5 = some c.lanes.l5 :=
      imageLane_of (hl .l5)
        (by rw [e, show 8 * 5 = 0 + 8 + 8 + 8 + 8 + 8 from rfl]; iterate 5 rw [drop_lane]
            rfl)
    have h6 : imageLane (settingsPageFields c) 6 = some c.lanes.l6 :=
      imageLane_of (hl .l6)
        (by rw [e, show 8 * 6 = 0 + 8 + 8 + 8 + 8 + 8 + 8 from rfl]; iterate 6 rw [drop_lane]
            rfl)
    have h7 : imageLane (settingsPageFields c) 7 = some c.lanes.l7 :=
      imageLane_of (hl .l7)
        (by rw [e, show 8 * 7 = 0 + 8 + 8 + 8 + 8 + 8 + 8 + 8 from rfl]; iterate 7 rw [drop_lane]
            rfl)
    unfold imageLanes
    rw [h0, h1, h2, h3, h4, h5, h6, h7]
    rfl
  · refine imageLanding_of hg ?_
    rw [show 64 = 0 + 8 + 8 + 8 + 8 + 8 + 8 + 8 + 8 from rfl]
    simp only [settingsPageFields, List.append_assoc]
    iterate 8 rw [drop_lane]
    rfl

/-- The content pages of an image that holds valid settings are those settings (R183). -/
theorem imageSettings_of {pages : List Page} {fare : List FareEntry} {c : SettingsCopy}
    (hf : imageFare (pages.take 32) = some fare) (hp : pages.getD 32 [] = settingsPageBytes c)
    (hl : ∀ l, laneSettingsValid (c.lanes.get l).2 = true) (hg : c.landing.valid = true) :
    imageSettings pages = some { fare := fare, lanes := c.lanes, landing := c.landing } := by
  obtain ⟨bs, h1, h2, h3⟩ := settingsPageBytes_readBack hl hg
  subst h1
  unfold imageSettings
  simp only [hf, hp, h2, h3]

/-! ## The replies as frames -/

/-- A frame ends with a check over every byte before it (R222). -/
theorem frame_check (kind : Byte) (fields : List Byte) :
    frame kind fields = (natBytes 2 (fields.length + 3) ++ kind :: fields)
      ++ natBytes 2 (crc16 (natBytes 2 (fields.length + 3) ++ kind :: fields)).toNat := rfl

/-- Every reply that a station transfer carries is the frame of a kind (R204); in a restart it carries none (R214). -/
theorem StationReply.bytes_frame (r : StationReply) (h : r ≠ .idle) : ∃ kind fields, r.bytes = frame kind fields := by
  cases r with
  | idle => exact absurd rfl h
  | none => exact ⟨_, _, rfl⟩
  | badFrame => exact ⟨_, _, rfl⟩
  | ok c d => exact ⟨_, _, rfl⟩
  | refused c r d => exact ⟨_, _, rfl⟩

/-- NONE and BAD_FRAME carry their kind and their check alone (R202 to R204). -/
theorem StationReply.bytes_bare :
    StationReply.bytes .none = frame Config.noneReplyKind []
    ∧ StationReply.bytes .badFrame = frame Config.badFrameReplyKind [] := ⟨rfl, rfl⟩

/-- Every lane reply but a VERDICT, which holds its frame, is a frame of its kind (R43, R222). -/
theorem LaneReply.bytes_frame (r : LaneReply) (h : ∀ verdictFrame, r ≠ .verdict verdictFrame) :
    ∃ fields, r.bytes = frame r.kind fields := by
  cases r with
  | verdict f => exact absurd rfl (h f)
  | tapStarted => exact ⟨_, rfl⟩
  | tapBadToken => exact ⟨_, rfl⟩
  | wroteOk => exact ⟨_, rfl⟩
  | wroteNothingPending => exact ⟨_, rfl⟩
  | status r v b p es => exact ⟨_, rfl⟩
  | badFrame => exact ⟨_, rfl⟩
  | unknownMessage => exact ⟨_, rfl⟩

/-- Every dock reply is a frame of its kind (R5, R222). -/
theorem DockReply.bytes_frame (r : DockReply) : r.bytes = frame r.kind (Config.dockReplyFields r) := rfl

end Sys2Proof.Machine
end

