-- ==== Sys2Proof/Laws/State.lean ====
section
/-!
SUPPORT. The fields of the state after each update, true by definition.
-/
namespace Sys2Proof.Machine

/-! ## withClock -/

@[simp] theorem State.withClock_clock (s : State) (x : Clock) : (s.withClock x).clock = x := rfl
@[simp] theorem State.withClock_keep (s : State) (x : Clock) : (s.withClock x).keep = s.keep := rfl
@[simp] theorem State.withClock_lanes (s : State) (x : Clock) : (s.withClock x).lanes = s.lanes := rfl
@[simp] theorem State.withClock_berths (s : State) (x : Clock) : (s.withClock x).berths = s.berths := rfl
@[simp] theorem State.withClock_fare (s : State) (x : Clock) : (s.withClock x).fare = s.fare := rfl
@[simp] theorem State.withClock_taps (s : State) (x : Clock) : (s.withClock x).taps = s.taps := rfl
@[simp] theorem State.withClock_deny (s : State) (x : Clock) : (s.withClock x).deny = s.deny := rfl
@[simp] theorem State.withClock_port (s : State) (x : Clock) : (s.withClock x).port = s.port := rfl
@[simp] theorem State.withClock_log (s : State) (x : Clock) : (s.withClock x).log = s.log := rfl
@[simp] theorem State.withClock_asked (s : State) (x : Clock) : (s.withClock x).asked = s.asked := rfl
@[simp] theorem State.withClock_station (s : State) (x : Clock) : (s.withClock x).station = s.station := rfl
@[simp] theorem State.withClock_pending (s : State) (x : Clock) : (s.withClock x).pending = s.pending := rfl
@[simp] theorem State.withClock_lane (s : State) (x : Clock) (l : LaneId) : (s.withClock x).lane l = s.lane l := rfl
@[simp] theorem State.withClock_berth (s : State) (x : Clock) (b : BerthId) : (s.withClock x).berth b = s.berth b := rfl
@[simp] theorem State.withClock_call (s : State) (x : Clock) (b : BerthId) : (s.withClock x).call b = s.call b := rfl
@[simp] theorem State.withClock_now (s : State) (x : Clock) : (s.withClock x).now = x.timeBase := rfl
@[simp] theorem State.withClock_running (s : State) (x : Clock) : (s.withClock x).running = s.running := rfl

/-! ## withKeep -/

@[simp] theorem State.withKeep_clock (s : State) (x : Keep) : (s.withKeep x).clock = s.clock := rfl
@[simp] theorem State.withKeep_keep (s : State) (x : Keep) : (s.withKeep x).keep = x := rfl
@[simp] theorem State.withKeep_lanes (s : State) (x : Keep) : (s.withKeep x).lanes = s.lanes := rfl
@[simp] theorem State.withKeep_berths (s : State) (x : Keep) : (s.withKeep x).berths = s.berths := rfl
@[simp] theorem State.withKeep_fare (s : State) (x : Keep) : (s.withKeep x).fare = s.fare := rfl
@[simp] theorem State.withKeep_taps (s : State) (x : Keep) : (s.withKeep x).taps = s.taps := rfl
@[simp] theorem State.withKeep_deny (s : State) (x : Keep) : (s.withKeep x).deny = s.deny := rfl
@[simp] theorem State.withKeep_port (s : State) (x : Keep) : (s.withKeep x).port = s.port := rfl
@[simp] theorem State.withKeep_log (s : State) (x : Keep) : (s.withKeep x).log = s.log := rfl
@[simp] theorem State.withKeep_asked (s : State) (x : Keep) : (s.withKeep x).asked = s.asked := rfl
@[simp] theorem State.withKeep_station (s : State) (x : Keep) : (s.withKeep x).station = s.station := rfl
@[simp] theorem State.withKeep_pending (s : State) (x : Keep) : (s.withKeep x).pending = s.pending := rfl
@[simp] theorem State.withKeep_lane (s : State) (x : Keep) (l : LaneId) : (s.withKeep x).lane l = s.lane l := rfl
@[simp] theorem State.withKeep_berth (s : State) (x : Keep) (b : BerthId) : (s.withKeep x).berth b = s.berth b := rfl
@[simp] theorem State.withKeep_call (s : State) (x : Keep) (b : BerthId) : (s.withKeep x).call b = s.call b := rfl
@[simp] theorem State.withKeep_now (s : State) (x : Keep) : (s.withKeep x).now = s.now := rfl

/-! ## withLanes -/

@[simp] theorem State.withLanes_clock (s : State) (x : PerLane Lane) : (s.withLanes x).clock = s.clock := rfl
@[simp] theorem State.withLanes_keep (s : State) (x : PerLane Lane) : (s.withLanes x).keep = s.keep := rfl
@[simp] theorem State.withLanes_lanes (s : State) (x : PerLane Lane) : (s.withLanes x).lanes = x := rfl
@[simp] theorem State.withLanes_berths (s : State) (x : PerLane Lane) : (s.withLanes x).berths = s.berths := rfl
@[simp] theorem State.withLanes_fare (s : State) (x : PerLane Lane) : (s.withLanes x).fare = s.fare := rfl
@[simp] theorem State.withLanes_taps (s : State) (x : PerLane Lane) : (s.withLanes x).taps = s.taps := rfl
@[simp] theorem State.withLanes_deny (s : State) (x : PerLane Lane) : (s.withLanes x).deny = s.deny := rfl
@[simp] theorem State.withLanes_port (s : State) (x : PerLane Lane) : (s.withLanes x).port = s.port := rfl
@[simp] theorem State.withLanes_log (s : State) (x : PerLane Lane) : (s.withLanes x).log = s.log := rfl
@[simp] theorem State.withLanes_asked (s : State) (x : PerLane Lane) : (s.withLanes x).asked = s.asked := rfl
@[simp] theorem State.withLanes_station (s : State) (x : PerLane Lane) : (s.withLanes x).station = s.station := rfl
@[simp] theorem State.withLanes_pending (s : State) (x : PerLane Lane) : (s.withLanes x).pending = s.pending := rfl
@[simp] theorem State.withLanes_lane (s : State) (x : PerLane Lane) (l : LaneId) : (s.withLanes x).lane l = x.get l := rfl
@[simp] theorem State.withLanes_berth (s : State) (x : PerLane Lane) (b : BerthId) : (s.withLanes x).berth b = s.berth b := rfl
@[simp] theorem State.withLanes_call (s : State) (x : PerLane Lane) (b : BerthId) : (s.withLanes x).call b = s.call b := rfl
@[simp] theorem State.withLanes_now (s : State) (x : PerLane Lane) : (s.withLanes x).now = s.now := rfl
@[simp] theorem State.withLanes_running (s : State) (x : PerLane Lane) : (s.withLanes x).running = s.running := rfl

/-! ## withBerths -/

@[simp] theorem State.withBerths_clock (s : State) (x : PerBerth Berth) : (s.withBerths x).clock = s.clock := rfl
@[simp] theorem State.withBerths_keep (s : State) (x : PerBerth Berth) : (s.withBerths x).keep = s.keep := rfl
@[simp] theorem State.withBerths_lanes (s : State) (x : PerBerth Berth) : (s.withBerths x).lanes = s.lanes := rfl
@[simp] theorem State.withBerths_berths (s : State) (x : PerBerth Berth) : (s.withBerths x).berths = x := rfl
@[simp] theorem State.withBerths_fare (s : State) (x : PerBerth Berth) : (s.withBerths x).fare = s.fare := rfl
@[simp] theorem State.withBerths_taps (s : State) (x : PerBerth Berth) : (s.withBerths x).taps = s.taps := rfl
@[simp] theorem State.withBerths_deny (s : State) (x : PerBerth Berth) : (s.withBerths x).deny = s.deny := rfl
@[simp] theorem State.withBerths_port (s : State) (x : PerBerth Berth) : (s.withBerths x).port = s.port := rfl
@[simp] theorem State.withBerths_log (s : State) (x : PerBerth Berth) : (s.withBerths x).log = s.log := rfl
@[simp] theorem State.withBerths_asked (s : State) (x : PerBerth Berth) : (s.withBerths x).asked = s.asked := rfl
@[simp] theorem State.withBerths_station (s : State) (x : PerBerth Berth) : (s.withBerths x).station = s.station := rfl
@[simp] theorem State.withBerths_pending (s : State) (x : PerBerth Berth) : (s.withBerths x).pending = s.pending := rfl
@[simp] theorem State.withBerths_lane (s : State) (x : PerBerth Berth) (l : LaneId) : (s.withBerths x).lane l = s.lane l := rfl
@[simp] theorem State.withBerths_berth (s : State) (x : PerBerth Berth) (b : BerthId) : (s.withBerths x).berth b = x.get b := rfl
@[simp] theorem State.withBerths_call (s : State) (x : PerBerth Berth) (b : BerthId) : (s.withBerths x).call b = (x.get b).call := rfl
@[simp] theorem State.withBerths_now (s : State) (x : PerBerth Berth) : (s.withBerths x).now = s.now := rfl
@[simp] theorem State.withBerths_running (s : State) (x : PerBerth Berth) : (s.withBerths x).running = s.running := rfl

/-! ## withFare -/

@[simp] theorem State.withFare_clock (s : State) (x : List FareEntry) : (s.withFare x).clock = s.clock := rfl
@[simp] theorem State.withFare_keep (s : State) (x : List FareEntry) : (s.withFare x).keep = s.keep := rfl
@[simp] theorem State.withFare_lanes (s : State) (x : List FareEntry) : (s.withFare x).lanes = s.lanes := rfl
@[simp] theorem State.withFare_berths (s : State) (x : List FareEntry) : (s.withFare x).berths = s.berths := rfl
@[simp] theorem State.withFare_fare (s : State) (x : List FareEntry) : (s.withFare x).fare = x := rfl
@[simp] theorem State.withFare_taps (s : State) (x : List FareEntry) : (s.withFare x).taps = s.taps := rfl
@[simp] theorem State.withFare_deny (s : State) (x : List FareEntry) : (s.withFare x).deny = s.deny := rfl
@[simp] theorem State.withFare_port (s : State) (x : List FareEntry) : (s.withFare x).port = s.port := rfl
@[simp] theorem State.withFare_log (s : State) (x : List FareEntry) : (s.withFare x).log = s.log := rfl
@[simp] theorem State.withFare_asked (s : State) (x : List FareEntry) : (s.withFare x).asked = s.asked := rfl
@[simp] theorem State.withFare_station (s : State) (x : List FareEntry) : (s.withFare x).station = s.station := rfl
@[simp] theorem State.withFare_pending (s : State) (x : List FareEntry) : (s.withFare x).pending = s.pending := rfl
@[simp] theorem State.withFare_lane (s : State) (x : List FareEntry) (l : LaneId) : (s.withFare x).lane l = s.lane l := rfl
@[simp] theorem State.withFare_berth (s : State) (x : List FareEntry) (b : BerthId) : (s.withFare x).berth b = s.berth b := rfl
@[simp] theorem State.withFare_call (s : State) (x : List FareEntry) (b : BerthId) : (s.withFare x).call b = s.call b := rfl
@[simp] theorem State.withFare_now (s : State) (x : List FareEntry) : (s.withFare x).now = s.now := rfl
@[simp] theorem State.withFare_running (s : State) (x : List FareEntry) : (s.withFare x).running = s.running := rfl

/-! ## withTaps -/

@[simp] theorem State.withTaps_clock (s : State) (x : List TapEntry) : (s.withTaps x).clock = s.clock := rfl
@[simp] theorem State.withTaps_keep (s : State) (x : List TapEntry) : (s.withTaps x).keep = s.keep := rfl
@[simp] theorem State.withTaps_lanes (s : State) (x : List TapEntry) : (s.withTaps x).lanes = s.lanes := rfl
@[simp] theorem State.withTaps_berths (s : State) (x : List TapEntry) : (s.withTaps x).berths = s.berths := rfl
@[simp] theorem State.withTaps_fare (s : State) (x : List TapEntry) : (s.withTaps x).fare = s.fare := rfl
@[simp] theorem State.withTaps_taps (s : State) (x : List TapEntry) : (s.withTaps x).taps = x := rfl
@[simp] theorem State.withTaps_deny (s : State) (x : List TapEntry) : (s.withTaps x).deny = s.deny := rfl
@[simp] theorem State.withTaps_port (s : State) (x : List TapEntry) : (s.withTaps x).port = s.port := rfl
@[simp] theorem State.withTaps_log (s : State) (x : List TapEntry) : (s.withTaps x).log = s.log := rfl
@[simp] theorem State.withTaps_asked (s : State) (x : List TapEntry) : (s.withTaps x).asked = s.asked := rfl
@[simp] theorem State.withTaps_station (s : State) (x : List TapEntry) : (s.withTaps x).station = s.station := rfl
@[simp] theorem State.withTaps_pending (s : State) (x : List TapEntry) : (s.withTaps x).pending = s.pending := rfl
@[simp] theorem State.withTaps_lane (s : State) (x : List TapEntry) (l : LaneId) : (s.withTaps x).lane l = s.lane l := rfl
@[simp] theorem State.withTaps_berth (s : State) (x : List TapEntry) (b : BerthId) : (s.withTaps x).berth b = s.berth b := rfl
@[simp] theorem State.withTaps_call (s : State) (x : List TapEntry) (b : BerthId) : (s.withTaps x).call b = s.call b := rfl
@[simp] theorem State.withTaps_now (s : State) (x : List TapEntry) : (s.withTaps x).now = s.now := rfl
@[simp] theorem State.withTaps_running (s : State) (x : List TapEntry) : (s.withTaps x).running = s.running := rfl

/-! ## withDeny -/

@[simp] theorem State.withDeny_clock (s : State) (x : DenyUnit) : (s.withDeny x).clock = s.clock := rfl
@[simp] theorem State.withDeny_keep (s : State) (x : DenyUnit) : (s.withDeny x).keep = s.keep := rfl
@[simp] theorem State.withDeny_lanes (s : State) (x : DenyUnit) : (s.withDeny x).lanes = s.lanes := rfl
@[simp] theorem State.withDeny_berths (s : State) (x : DenyUnit) : (s.withDeny x).berths = s.berths := rfl
@[simp] theorem State.withDeny_fare (s : State) (x : DenyUnit) : (s.withDeny x).fare = s.fare := rfl
@[simp] theorem State.withDeny_taps (s : State) (x : DenyUnit) : (s.withDeny x).taps = s.taps := rfl
@[simp] theorem State.withDeny_deny (s : State) (x : DenyUnit) : (s.withDeny x).deny = x := rfl
@[simp] theorem State.withDeny_port (s : State) (x : DenyUnit) : (s.withDeny x).port = s.port := rfl
@[simp] theorem State.withDeny_log (s : State) (x : DenyUnit) : (s.withDeny x).log = s.log := rfl
@[simp] theorem State.withDeny_asked (s : State) (x : DenyUnit) : (s.withDeny x).asked = s.asked := rfl
@[simp] theorem State.withDeny_station (s : State) (x : DenyUnit) : (s.withDeny x).station = s.station := rfl
@[simp] theorem State.withDeny_pending (s : State) (x : DenyUnit) : (s.withDeny x).pending = s.pending := rfl
@[simp] theorem State.withDeny_lane (s : State) (x : DenyUnit) (l : LaneId) : (s.withDeny x).lane l = s.lane l := rfl
@[simp] theorem State.withDeny_berth (s : State) (x : DenyUnit) (b : BerthId) : (s.withDeny x).berth b = s.berth b := rfl
@[simp] theorem State.withDeny_call (s : State) (x : DenyUnit) (b : BerthId) : (s.withDeny x).call b = s.call b := rfl
@[simp] theorem State.withDeny_now (s : State) (x : DenyUnit) : (s.withDeny x).now = s.now := rfl
@[simp] theorem State.withDeny_running (s : State) (x : DenyUnit) : (s.withDeny x).running = s.running := rfl

/-! ## withPort -/

@[simp] theorem State.withPort_clock (s : State) (x : FlashPort) : (s.withPort x).clock = s.clock := rfl
@[simp] theorem State.withPort_keep (s : State) (x : FlashPort) : (s.withPort x).keep = s.keep := rfl
@[simp] theorem State.withPort_lanes (s : State) (x : FlashPort) : (s.withPort x).lanes = s.lanes := rfl
@[simp] theorem State.withPort_berths (s : State) (x : FlashPort) : (s.withPort x).berths = s.berths := rfl
@[simp] theorem State.withPort_fare (s : State) (x : FlashPort) : (s.withPort x).fare = s.fare := rfl
@[simp] theorem State.withPort_taps (s : State) (x : FlashPort) : (s.withPort x).taps = s.taps := rfl
@[simp] theorem State.withPort_deny (s : State) (x : FlashPort) : (s.withPort x).deny = s.deny := rfl
@[simp] theorem State.withPort_port (s : State) (x : FlashPort) : (s.withPort x).port = x := rfl
@[simp] theorem State.withPort_log (s : State) (x : FlashPort) : (s.withPort x).log = s.log := rfl
@[simp] theorem State.withPort_asked (s : State) (x : FlashPort) : (s.withPort x).asked = s.asked := rfl
@[simp] theorem State.withPort_station (s : State) (x : FlashPort) : (s.withPort x).station = s.station := rfl
@[simp] theorem State.withPort_pending (s : State) (x : FlashPort) : (s.withPort x).pending = s.pending := rfl
@[simp] theorem State.withPort_lane (s : State) (x : FlashPort) (l : LaneId) : (s.withPort x).lane l = s.lane l := rfl
@[simp] theorem State.withPort_berth (s : State) (x : FlashPort) (b : BerthId) : (s.withPort x).berth b = s.berth b := rfl
@[simp] theorem State.withPort_call (s : State) (x : FlashPort) (b : BerthId) : (s.withPort x).call b = s.call b := rfl
@[simp] theorem State.withPort_now (s : State) (x : FlashPort) : (s.withPort x).now = s.now := rfl
@[simp] theorem State.withPort_running (s : State) (x : FlashPort) : (s.withPort x).running = s.running := rfl

/-! ## withLog -/

@[simp] theorem State.withLog_clock (s : State) (x : TripLog) : (s.withLog x).clock = s.clock := rfl
@[simp] theorem State.withLog_keep (s : State) (x : TripLog) : (s.withLog x).keep = s.keep := rfl
@[simp] theorem State.withLog_lanes (s : State) (x : TripLog) : (s.withLog x).lanes = s.lanes := rfl
@[simp] theorem State.withLog_berths (s : State) (x : TripLog) : (s.withLog x).berths = s.berths := rfl
@[simp] theorem State.withLog_fare (s : State) (x : TripLog) : (s.withLog x).fare = s.fare := rfl
@[simp] theorem State.withLog_taps (s : State) (x : TripLog) : (s.withLog x).taps = s.taps := rfl
@[simp] theorem State.withLog_deny (s : State) (x : TripLog) : (s.withLog x).deny = s.deny := rfl
@[simp] theorem State.withLog_port (s : State) (x : TripLog) : (s.withLog x).port = s.port := rfl
@[simp] theorem State.withLog_log (s : State) (x : TripLog) : (s.withLog x).log = x := rfl
@[simp] theorem State.withLog_asked (s : State) (x : TripLog) : (s.withLog x).asked = s.asked := rfl
@[simp] theorem State.withLog_station (s : State) (x : TripLog) : (s.withLog x).station = s.station := rfl
@[simp] theorem State.withLog_pending (s : State) (x : TripLog) : (s.withLog x).pending = s.pending := rfl
@[simp] theorem State.withLog_lane (s : State) (x : TripLog) (l : LaneId) : (s.withLog x).lane l = s.lane l := rfl
@[simp] theorem State.withLog_berth (s : State) (x : TripLog) (b : BerthId) : (s.withLog x).berth b = s.berth b := rfl
@[simp] theorem State.withLog_call (s : State) (x : TripLog) (b : BerthId) : (s.withLog x).call b = s.call b := rfl
@[simp] theorem State.withLog_now (s : State) (x : TripLog) : (s.withLog x).now = s.now := rfl
@[simp] theorem State.withLog_running (s : State) (x : TripLog) : (s.withLog x).running = s.running := rfl

/-! ## withStation -/

@[simp] theorem State.withStation_clock (s : State) (x : Station) : (s.withStation x).clock = s.clock := rfl
@[simp] theorem State.withStation_keep (s : State) (x : Station) : (s.withStation x).keep = s.keep := rfl
@[simp] theorem State.withStation_lanes (s : State) (x : Station) : (s.withStation x).lanes = s.lanes := rfl
@[simp] theorem State.withStation_berths (s : State) (x : Station) : (s.withStation x).berths = s.berths := rfl
@[simp] theorem State.withStation_fare (s : State) (x : Station) : (s.withStation x).fare = s.fare := rfl
@[simp] theorem State.withStation_taps (s : State) (x : Station) : (s.withStation x).taps = s.taps := rfl
@[simp] theorem State.withStation_deny (s : State) (x : Station) : (s.withStation x).deny = s.deny := rfl
@[simp] theorem State.withStation_port (s : State) (x : Station) : (s.withStation x).port = s.port := rfl
@[simp] theorem State.withStation_log (s : State) (x : Station) : (s.withStation x).log = s.log := rfl
@[simp] theorem State.withStation_asked (s : State) (x : Station) : (s.withStation x).asked = s.asked := rfl
@[simp] theorem State.withStation_station (s : State) (x : Station) : (s.withStation x).station = x := rfl
@[simp] theorem State.withStation_pending (s : State) (x : Station) : (s.withStation x).pending = s.pending := rfl
@[simp] theorem State.withStation_lane (s : State) (x : Station) (l : LaneId) : (s.withStation x).lane l = s.lane l := rfl
@[simp] theorem State.withStation_berth (s : State) (x : Station) (b : BerthId) : (s.withStation x).berth b = s.berth b := rfl
@[simp] theorem State.withStation_call (s : State) (x : Station) (b : BerthId) : (s.withStation x).call b = s.call b := rfl
@[simp] theorem State.withStation_now (s : State) (x : Station) : (s.withStation x).now = s.now := rfl
@[simp] theorem State.withStation_running (s : State) (x : Station) : (s.withStation x).running = s.running := rfl

/-! ## withAsked -/

@[simp] theorem State.withAsked_clock (s : State) (x : List Content) : (s.withAsked x).clock = s.clock := rfl
@[simp] theorem State.withAsked_keep (s : State) (x : List Content) : (s.withAsked x).keep = s.keep := rfl
@[simp] theorem State.withAsked_lanes (s : State) (x : List Content) : (s.withAsked x).lanes = s.lanes := rfl
@[simp] theorem State.withAsked_berths (s : State) (x : List Content) : (s.withAsked x).berths = s.berths := rfl
@[simp] theorem State.withAsked_fare (s : State) (x : List Content) : (s.withAsked x).fare = s.fare := rfl
@[simp] theorem State.withAsked_taps (s : State) (x : List Content) : (s.withAsked x).taps = s.taps := rfl
@[simp] theorem State.withAsked_deny (s : State) (x : List Content) : (s.withAsked x).deny = s.deny := rfl
@[simp] theorem State.withAsked_port (s : State) (x : List Content) : (s.withAsked x).port = s.port := rfl
@[simp] theorem State.withAsked_log (s : State) (x : List Content) : (s.withAsked x).log = s.log := rfl
@[simp] theorem State.withAsked_asked (s : State) (x : List Content) : (s.withAsked x).asked = x := rfl
@[simp] theorem State.withAsked_station (s : State) (x : List Content) : (s.withAsked x).station = s.station := rfl
@[simp] theorem State.withAsked_pending (s : State) (x : List Content) : (s.withAsked x).pending = s.pending := rfl
@[simp] theorem State.withAsked_lane (s : State) (x : List Content) (l : LaneId) : (s.withAsked x).lane l = s.lane l := rfl
@[simp] theorem State.withAsked_berth (s : State) (x : List Content) (b : BerthId) : (s.withAsked x).berth b = s.berth b := rfl
@[simp] theorem State.withAsked_call (s : State) (x : List Content) (b : BerthId) : (s.withAsked x).call b = s.call b := rfl
@[simp] theorem State.withAsked_now (s : State) (x : List Content) : (s.withAsked x).now = s.now := rfl
@[simp] theorem State.withAsked_running (s : State) (x : List Content) : (s.withAsked x).running = s.running := rfl

/-! ## withPending -/

@[simp] theorem State.withPending_clock (s : State) (x : List Instr) : (s.withPending x).clock = s.clock := rfl
@[simp] theorem State.withPending_keep (s : State) (x : List Instr) : (s.withPending x).keep = s.keep := rfl
@[simp] theorem State.withPending_lanes (s : State) (x : List Instr) : (s.withPending x).lanes = s.lanes := rfl
@[simp] theorem State.withPending_berths (s : State) (x : List Instr) : (s.withPending x).berths = s.berths := rfl
@[simp] theorem State.withPending_fare (s : State) (x : List Instr) : (s.withPending x).fare = s.fare := rfl
@[simp] theorem State.withPending_taps (s : State) (x : List Instr) : (s.withPending x).taps = s.taps := rfl
@[simp] theorem State.withPending_deny (s : State) (x : List Instr) : (s.withPending x).deny = s.deny := rfl
@[simp] theorem State.withPending_port (s : State) (x : List Instr) : (s.withPending x).port = s.port := rfl
@[simp] theorem State.withPending_log (s : State) (x : List Instr) : (s.withPending x).log = s.log := rfl
@[simp] theorem State.withPending_asked (s : State) (x : List Instr) : (s.withPending x).asked = s.asked := rfl
@[simp] theorem State.withPending_station (s : State) (x : List Instr) : (s.withPending x).station = s.station := rfl
@[simp] theorem State.withPending_pending (s : State) (x : List Instr) : (s.withPending x).pending = x := rfl
@[simp] theorem State.withPending_lane (s : State) (x : List Instr) (l : LaneId) : (s.withPending x).lane l = s.lane l := rfl
@[simp] theorem State.withPending_berth (s : State) (x : List Instr) (b : BerthId) : (s.withPending x).berth b = s.berth b := rfl
@[simp] theorem State.withPending_call (s : State) (x : List Instr) (b : BerthId) : (s.withPending x).call b = s.call b := rfl
@[simp] theorem State.withPending_now (s : State) (x : List Instr) : (s.withPending x).now = s.now := rfl
@[simp] theorem State.withPending_running (s : State) (x : List Instr) : (s.withPending x).running = s.running := rfl

/-! ## The later of two changes of one part stands -/

@[simp] theorem State.withClock_withClock (s : State) (x y : Clock) : (s.withClock x).withClock y = s.withClock y := rfl
@[simp] theorem State.withKeep_withKeep (s : State) (x y : Keep) : (s.withKeep x).withKeep y = s.withKeep y := rfl
@[simp] theorem State.withLanes_withLanes (s : State) (x y : PerLane Lane) : (s.withLanes x).withLanes y = s.withLanes y := rfl
@[simp] theorem State.withBerths_withBerths (s : State) (x y : PerBerth Berth) : (s.withBerths x).withBerths y = s.withBerths y := rfl
@[simp] theorem State.withFare_withFare (s : State) (x y : List FareEntry) : (s.withFare x).withFare y = s.withFare y := rfl
@[simp] theorem State.withTaps_withTaps (s : State) (x y : List TapEntry) : (s.withTaps x).withTaps y = s.withTaps y := rfl
@[simp] theorem State.withDeny_withDeny (s : State) (x y : DenyUnit) : (s.withDeny x).withDeny y = s.withDeny y := rfl
@[simp] theorem State.withPort_withPort (s : State) (x y : FlashPort) : (s.withPort x).withPort y = s.withPort y := rfl
@[simp] theorem State.withLog_withLog (s : State) (x y : TripLog) : (s.withLog x).withLog y = s.withLog y := rfl
@[simp] theorem State.withAsked_withAsked (s : State) (x y : List Content) : (s.withAsked x).withAsked y = s.withAsked y := rfl
@[simp] theorem State.withStation_withStation (s : State) (x y : Station) : (s.withStation x).withStation y = s.withStation y := rfl
@[simp] theorem State.withPending_withPending (s : State) (x y : List Instr) : (s.withPending x).withPending y = s.withPending y := rfl

/-! ## One lane, one berth -/

@[simp] theorem PerLane.get_set_self {α : Type} (p : PerLane α) (l : LaneId) (x : α) : (p.set l x).get l = x := by
  cases l <;> rfl

theorem PerLane.get_set_other {α : Type} (p : PerLane α) {k l : LaneId} (x : α) (h : k ≠ l) :
    (p.set l x).get k = p.get k := by
  cases k <;> cases l <;> first | rfl | exact absurd rfl h

@[simp] theorem PerLane.get_map {α β : Type} (f : α → β) (p : PerLane α) (l : LaneId) :
    (p.map f).get l = f (p.get l) := by
  cases l <;> rfl

@[simp] theorem PerLane.get_all {α : Type} (x : α) (l : LaneId) : (PerLane.all x).get l = x := by cases l <;> rfl

@[simp] theorem PerBerth.get_set_self {α : Type} (p : PerBerth α) (b : BerthId) (x : α) : (p.set b x).get b = x := by
  cases b <;> rfl

theorem PerBerth.get_set_other {α : Type} (p : PerBerth α) {k b : BerthId} (x : α) (h : k ≠ b) :
    (p.set b x).get k = p.get k := by
  cases k <;> cases b <;> first | rfl | exact absurd rfl h

/-- A sum over the lanes after one lane's value is replaced. -/
theorem PerLane.sum_set {α : Type} (f : α → Nat) (p : PerLane α) (l : LaneId) (x : α) :
    (p.set l x).sum f + f (p.get l) = p.sum f + f x := by
  cases l <;> simp only [PerLane.set, PerLane.sum, PerLane.get] <;> omega

/-- A lane's part of a sum over the lanes. -/
theorem PerLane.le_sum {α : Type} (f : α → Nat) (p : PerLane α) (l : LaneId) : f (p.get l) ≤ p.sum f := by
  cases l <;> simp only [PerLane.sum, PerLane.get] <;> omega

@[simp] theorem State.setLane_clock (s : State) (l : LaneId) (x : Lane) : (s.setLane l x).clock = s.clock := rfl
@[simp] theorem State.setBerth_clock (s : State) (b : BerthId) (x : Berth) : (s.setBerth b x).clock = s.clock := rfl
@[simp] theorem State.updLane_clock (s : State) (l : LaneId) (f : Lane → Lane) : (s.updLane l f).clock = s.clock := rfl
@[simp] theorem State.setLane_keep (s : State) (l : LaneId) (x : Lane) : (s.setLane l x).keep = s.keep := rfl
@[simp] theorem State.setBerth_keep (s : State) (b : BerthId) (x : Berth) : (s.setBerth b x).keep = s.keep := rfl
@[simp] theorem State.updLane_keep (s : State) (l : LaneId) (f : Lane → Lane) : (s.updLane l f).keep = s.keep := rfl
@[simp] theorem State.setBerth_lanes (s : State) (b : BerthId) (x : Berth) : (s.setBerth b x).lanes = s.lanes := rfl
@[simp] theorem State.setLane_berths (s : State) (l : LaneId) (x : Lane) : (s.setLane l x).berths = s.berths := rfl
@[simp] theorem State.updLane_berths (s : State) (l : LaneId) (f : Lane → Lane) : (s.updLane l f).berths = s.berths := rfl
@[simp] theorem State.setLane_fare (s : State) (l : LaneId) (x : Lane) : (s.setLane l x).fare = s.fare := rfl
@[simp] theorem State.setBerth_fare (s : State) (b : BerthId) (x : Berth) : (s.setBerth b x).fare = s.fare := rfl
@[simp] theorem State.updLane_fare (s : State) (l : LaneId) (f : Lane → Lane) : (s.updLane l f).fare = s.fare := rfl
@[simp] theorem State.setLane_taps (s : State) (l : LaneId) (x : Lane) : (s.setLane l x).taps = s.taps := rfl
@[simp] theorem State.setBerth_taps (s : State) (b : BerthId) (x : Berth) : (s.setBerth b x).taps = s.taps := rfl
@[simp] theorem State.updLane_taps (s : State) (l : LaneId) (f : Lane → Lane) : (s.updLane l f).taps = s.taps := rfl
@[simp] theorem State.setLane_deny (s : State) (l : LaneId) (x : Lane) : (s.setLane l x).deny = s.deny := rfl
@[simp] theorem State.setBerth_deny (s : State) (b : BerthId) (x : Berth) : (s.setBerth b x).deny = s.deny := rfl
@[simp] theorem State.updLane_deny (s : State) (l : LaneId) (f : Lane → Lane) : (s.updLane l f).deny = s.deny := rfl
@[simp] theorem State.setLane_port (s : State) (l : LaneId) (x : Lane) : (s.setLane l x).port = s.port := rfl
@[simp] theorem State.setBerth_port (s : State) (b : BerthId) (x : Berth) : (s.setBerth b x).port = s.port := rfl
@[simp] theorem State.updLane_port (s : State) (l : LaneId) (f : Lane → Lane) : (s.updLane l f).port = s.port := rfl
@[simp] theorem State.setLane_log (s : State) (l : LaneId) (x : Lane) : (s.setLane l x).log = s.log := rfl
@[simp] theorem State.setBerth_log (s : State) (b : BerthId) (x : Berth) : (s.setBerth b x).log = s.log := rfl
@[simp] theorem State.updLane_log (s : State) (l : LaneId) (f : Lane → Lane) : (s.updLane l f).log = s.log := rfl
@[simp] theorem State.setLane_station (s : State) (l : LaneId) (x : Lane) : (s.setLane l x).station = s.station := rfl
@[simp] theorem State.setBerth_station (s : State) (b : BerthId) (x : Berth) : (s.setBerth b x).station = s.station := rfl
@[simp] theorem State.updLane_station (s : State) (l : LaneId) (f : Lane → Lane) : (s.updLane l f).station = s.station := rfl
@[simp] theorem State.setLane_pending (s : State) (l : LaneId) (x : Lane) : (s.setLane l x).pending = s.pending := rfl
@[simp] theorem State.setBerth_pending (s : State) (b : BerthId) (x : Berth) : (s.setBerth b x).pending = s.pending := rfl
@[simp] theorem State.updLane_pending (s : State) (l : LaneId) (f : Lane → Lane) : (s.updLane l f).pending = s.pending := rfl
@[simp] theorem State.setLane_lanes (s : State) (l : LaneId) (x : Lane) : (s.setLane l x).lanes = s.lanes.set l x := rfl
@[simp] theorem State.setBerth_berths (s : State) (b : BerthId) (x : Berth) :
    (s.setBerth b x).berths = s.berths.set b x := rfl
@[simp] theorem State.updLane_lanes (s : State) (l : LaneId) (f : Lane → Lane) :
    (s.updLane l f).lanes = s.lanes.set l (f (s.lane l)) := rfl
@[simp] theorem State.setLane_berth (s : State) (l : LaneId) (x : Lane) (b : BerthId) :
    (s.setLane l x).berth b = s.berth b := rfl
@[simp] theorem State.setLane_call (s : State) (l : LaneId) (x : Lane) (b : BerthId) :
    (s.setLane l x).call b = s.call b := rfl
@[simp] theorem State.setLane_now (s : State) (l : LaneId) (x : Lane) : (s.setLane l x).now = s.now := rfl
@[simp] theorem State.setLane_running (s : State) (l : LaneId) (x : Lane) : (s.setLane l x).running = s.running := rfl
@[simp] theorem State.updLane_berth (s : State) (l : LaneId) (f : Lane → Lane) (b : BerthId) :
    (s.updLane l f).berth b = s.berth b := rfl
@[simp] theorem State.updLane_call (s : State) (l : LaneId) (f : Lane → Lane) (b : BerthId) :
    (s.updLane l f).call b = s.call b := rfl
@[simp] theorem State.updLane_now (s : State) (l : LaneId) (f : Lane → Lane) : (s.updLane l f).now = s.now := rfl
@[simp] theorem State.updLane_running (s : State) (l : LaneId) (f : Lane → Lane) :
    (s.updLane l f).running = s.running := rfl
@[simp] theorem State.setBerth_lane (s : State) (b : BerthId) (x : Berth) (l : LaneId) :
    (s.setBerth b x).lane l = s.lane l := rfl
@[simp] theorem State.setBerth_now (s : State) (b : BerthId) (x : Berth) : (s.setBerth b x).now = s.now := rfl
@[simp] theorem State.setBerth_running (s : State) (b : BerthId) (x : Berth) : (s.setBerth b x).running = s.running := rfl

@[simp] theorem State.setLane_lane (s : State) (l : LaneId) (x : Lane) : (s.setLane l x).lane l = x :=
  PerLane.get_set_self s.lanes l x

theorem State.setLane_other (s : State) {k l : LaneId} (x : Lane) (h : k ≠ l) : (s.setLane l x).lane k = s.lane k :=
  PerLane.get_set_other s.lanes x h

@[simp] theorem State.updLane_lane (s : State) (l : LaneId) (f : Lane → Lane) : (s.updLane l f).lane l = f (s.lane l) :=
  s.setLane_lane l _

theorem State.updLane_other (s : State) {k l : LaneId} (f : Lane → Lane) (h : k ≠ l) :
    (s.updLane l f).lane k = s.lane k := s.setLane_other _ h

@[simp] theorem State.setBerth_berth (s : State) (b : BerthId) (x : Berth) : (s.setBerth b x).berth b = x :=
  PerBerth.get_set_self s.berths b x

theorem State.setBerth_other (s : State) {k b : BerthId} (x : Berth) (h : k ≠ b) :
    (s.setBerth b x).berth k = s.berth k := PerBerth.get_set_other s.berths x h

@[simp] theorem State.setBerth_call (s : State) (b : BerthId) (x : Berth) : (s.setBerth b x).call b = x.call := by
  simp [State.call]

theorem State.setBerth_call_other (s : State) {k b : BerthId} (x : Berth) (h : k ≠ b) :
    (s.setBerth b x).call k = s.call k := by
  simp [State.call, s.setBerth_other x h]

@[simp] theorem PerLane.set_set {α : Type} (p : PerLane α) (l : LaneId) (x y : α) :
    (p.set l x).set l y = p.set l y := by
  cases l <;> rfl

@[simp] theorem PerBerth.set_set {α : Type} (p : PerBerth α) (b : BerthId) (x y : α) :
    (p.set b x).set b y = p.set b y := by
  cases b <;> rfl

@[simp] theorem PerLane.set_get {α : Type} (p : PerLane α) (l : LaneId) : p.set l (p.get l) = p := by
  cases l <;> rfl

@[simp] theorem PerBerth.set_get {α : Type} (p : PerBerth α) (b : BerthId) : p.set b (p.get b) = p := by
  cases b <;> rfl

/-- The later of two replacements of one lane stands. -/
@[simp] theorem State.setLane_setLane (s : State) (l : LaneId) (x y : Lane) :
    (s.setLane l x).setLane l y = s.setLane l y := by
  simp [State.setLane, State.withLanes]

/-- The later of two replacements of one berth stands. -/
@[simp] theorem State.setBerth_setBerth (s : State) (b : BerthId) (x y : Berth) :
    (s.setBerth b x).setBerth b y = s.setBerth b y := by
  simp [State.setBerth, State.withBerths]

/-- A lane replaced by itself. -/
@[simp] theorem State.setLane_self (s : State) (l : LaneId) : s.setLane l (s.lane l) = s := by
  simp [State.setLane, State.withLanes, State.lane]

/-- A berth replaced by itself. -/
@[simp] theorem State.setBerth_self (s : State) (b : BerthId) : s.setBerth b (s.berth b) = s := by
  simp [State.setBerth, State.withBerths, State.berth]

/-- What `running` says. -/
theorem State.running_iff (s : State) : s.running = true ↔ s.keep.run = .running := by
  unfold State.running
  cases s.keep.run <;> simp

end Sys2Proof.Machine
end

