-- ==== Sys2Proof/Laws/Links.lean ====
section
/-!
SUPPORT. How an event reaches its block (the lane links, the dock links, the station port), when BERTH_EVENT is latched,
and the lists of entries.
-/
namespace Sys2Proof.Machine

/-! ## Events of a part that runs -/

theorem State.running_of {s : State} (h : s.keep.run = .running) : s.running = true := s.running_iff.mpr h

theorem State.whenRunning_of {s : State} (h : s.keep.run = .running) (f : State → State) : s.whenRunning f = f s := by
  simp [State.whenRunning, State.running_of h]

theorem State.whenRunning_not {s : State} (h : s.keep.run ≠ .running) (f : State → State) : s.whenRunning f = s := by
  unfold State.whenRunning
  rw [if_neg]
  rwa [s.running_iff]

theorem State.onLane_of {s : State} {l : LaneId} (h : s.keep.run = .running) (ht : (s.lane l).takeHeld = false)
    (f : State → State) : s.onLane l f = f s := by
  simp [State.onLane, State.whenRunning_of h, ht]

theorem State.onLane_held {s : State} {l : LaneId} (ht : (s.lane l).takeHeld = true) (f : State → State) :
    s.onLane l f = s := by
  unfold State.onLane State.whenRunning
  split
  · simp [ht]
  · rfl

theorem State.onTransfer_of {s : State} (h : s.keep.run = .running) (f : State → State) :
    s.onTransfer f = f s.collect := by
  simp [State.onTransfer, h]

/-- A good frame of a known command, its fields filled, reaches its owner; the answer is the pending reply (R203). -/
theorem State.onStation_fit {α : Type} {s : State} (h : s.keep.run = .running) (cmd : Command) (a : α)
    (f : α → State → State × Answer) :
    s.onStation cmd (.fit a) f = (f a s.collect).1.setReply ((f a s.collect).2.reply cmd) := by
  simp [State.onStation, State.onTransfer_of h]

/-- A misshapen command is refused BAD_ARGUMENT (R203 step 4). -/
theorem State.onStation_misfit {α : Type} {s : State} (h : s.keep.run = .running) (cmd : Command)
    (f : α → State → State × Answer) :
    s.onStation cmd .misfit f = s.collect.setReply (.refused cmd .badArgument .nothing) := by
  simp [State.onStation, State.onTransfer_of h, Answer.reply, Answer.no]

/-- A reply formed after a transfer's collection: both as one change of the station port. -/
theorem State.collect_setReply (s : State) (r : StationReply) :
    s.collect.setReply r = s.withStation { s.station with
      shiftedOut := some (s.station.pendingReply.getD .none), pendingReply := some r } := rfl

theorem State.settle_of {s : State} {l : LaneId} (h : (s.lane l).takeHeld = false) : s.settle l = s := by
  simp [State.settle, h]

/-- An append leaves every lane. -/
@[simp] theorem State.appendUnreserved_lane (s : State) (c : Content) (k : LaneId) :
    (s.appendUnreserved c).lane k = s.lane k := by
  unfold State.appendUnreserved; split <;> rfl

theorem State.appendAll_lane (cs : List Content) (s : State) (k : LaneId) :
    (cs.foldl State.appendUnreserved s).lane k = s.lane k := by
  induction cs generalizing s with
  | nil => rfl
  | cons c rest ih => exact (ih _).trans (s.appendUnreserved_lane c k)

@[simp] theorem State.takeAsked_lane (s : State) (k : LaneId) : s.takeAsked.lane k = s.lane k :=
  State.appendAll_lane _ _ k

@[simp] theorem State.askRefusal_lane (s : State) (r : Reason) (c : Content) (k : LaneId) :
    (s.askRefusal r c).lane k = s.lane k := by
  unfold State.askRefusal; split <;> simp

/-- With no append asked for before, the log takes nothing. -/
theorem State.takeAsked_none {s : State} (h : s.asked = []) : s.takeAsked = s := by
  unfold State.takeAsked
  rw [h]
  show s.withAsked [] = s
  rw [← h]; rfl

/-- A REFUSE decided while no TAKE is held (R125, R126). -/
theorem State.decideRefuse_of {s : State} {l : LaneId} (h : (s.lane l).takeHeld = false) (p : Progress) (r : Reason)
    (d : Option Nat) :
    s.decideRefuse l p r d
      = (fun t : State => if s.station.landing.logRefusals then
            t.askRefusal r (.refusal p.arrival.calendar l p.token.id r d) else t)
          (s.setLane l { s.lane l with
            ctx := .refused (p.refused r d)
            stats := { (s.lane l).stats with refused := bump (s.lane l).stats.refused } }) := by
  unfold State.decideRefuse
  dsimp only
  rw [State.settle_of]
  · rfl
  · split <;> simp [h]

/-- An ADMIT decided while no TAKE is held (R124). -/
theorem State.decideOffer_of {s : State} {l : LaneId} (h : (s.lane l).takeHeld = false) (o : Offer) :
    s.decideOffer l o = s.setLane l { s.lane l with
      ctx := .offer o, takeDeadline := some (s.now + (s.lane l).settings.writeTimeout) } := by
  unfold State.decideOffer
  rw [State.settle_of (by simp [h])]
  rfl

/-! ## The berths -/

/-- A change of a record that keeps the state, the prior state and the OVER flag latches nothing (R37). -/
theorem berthEvent_same {c d : Call} (h1 : d.stage = c.stage) (h2 : d.suspended = c.suspended) (h3 : d.isOver = c.isOver) :
    berthEvent (some c) (some d) = false := by
  simp only [berthEvent, callState, priorState, overFlag, h1, h2, h3]
  cases c.isOver <;> simp

/-- The same on a state: only the record changes. -/
theorem State.setCall_same {s : State} {b : BerthId} {c d : Call} (hc : s.call b = some c) (h1 : d.stage = c.stage)
    (h2 : d.suspended = c.suspended) (h3 : d.isOver = c.isOver) :
    s.setCall b (some d) = s.setBerth b { s.berth b with call := some d } := by
  unfold State.setCall
  rw [hc, berthEvent_same h1 h2 h3]
  rfl

/-- A change of the call state latches BERTH_EVENT (R37). -/
theorem State.setCall_moved {s : State} {b : BerthId} {c : Option Call} (h : callState (s.call b) ≠ callState c) :
    s.setCall b c = (s.setBerth b { s.berth b with call := c }).latch fun x => { x with berthEvent := true } := by
  unfold State.setCall berthEvent
  simp [h]

@[simp] theorem State.setCall_lane (s : State) (b : BerthId) (c : Option Call) (k : LaneId) :
    (s.setCall b c).lane k = s.lane k := by
  unfold State.setCall; dsimp only; split <;> rfl

@[simp] theorem State.setCall_now (s : State) (b : BerthId) (c : Option Call) : (s.setCall b c).now = s.now := by
  unfold State.setCall; dsimp only; split <;> rfl

@[simp] theorem State.setCall_call (s : State) (b : BerthId) (c : Option Call) : (s.setCall b c).call b = c := by
  unfold State.setCall; dsimp only; split <;> simp [State.latch]

theorem State.setCall_call_other (s : State) {k b : BerthId} (c : Option Call) (h : k ≠ b) :
    (s.setCall b c).call k = s.call k := by
  unfold State.setCall; dsimp only; split <;> exact s.setBerth_call_other _ h

theorem State.updCall_some {s : State} {b : BerthId} {c : Call} (hc : s.call b = some c) (f : Call → Call) :
    s.updCall b f = s.setCall b (some (f c)) := by
  simp [State.updCall, hc]

theorem State.updCall_none {s : State} {b : BerthId} (hc : s.call b = none) (f : Call → Call) : s.updCall b f = s := by
  simp [State.updCall, hc]

/-- A message of a lane joins those in flight, and nothing else changes. -/
theorem State.sendBerth_some {s : State} {b : BerthId} {c : Call} (hc : s.call b = some c) (l : LaneId) (m : Holding) :
    s.sendBerth b l m = s.setBerth b { s.berth b with call := some (c.send l m) } := by
  unfold State.sendBerth
  rw [State.updCall_some hc]
  exact State.setCall_same hc rfl rfl rfl

theorem State.sendBerth_none {s : State} {b : BerthId} (hc : s.call b = none) (l : LaneId) (m : Holding) :
    s.sendBerth b l m = s := State.updCall_none hc _

/-- A message to a berth leaves every lane. -/
theorem State.sendHolding_lane (s : State) (b : Option BerthId) (l : LaneId) (m : Holding) (k : LaneId) :
    (s.sendHolding b l m).lane k = s.lane k := by
  cases b with
  | none => rfl
  | some b =>
    cases h : s.call b with
    | none => simp [State.sendHolding, State.sendBerth_none h]
    | some c => simp [State.sendHolding, State.sendBerth_some h]

/-- A message to a berth and a change of a lane need no order. -/
theorem State.sendHolding_setLane (s : State) (b : Option BerthId) (l : LaneId) (m : Holding) (k : LaneId) (x : Lane) :
    (s.sendHolding b l m).setLane k x = (s.setLane k x).sendHolding b l m := by
  cases b with
  | none => rfl
  | some b =>
    cases h : s.call b with
    | none =>
      have h' : (s.setLane k x).call b = none := h
      simp only [State.sendHolding, State.sendBerth_none h, State.sendBerth_none h']
    | some c =>
      have h' : (s.setLane k x).call b = some c := h
      simp only [State.sendHolding, State.sendBerth_some h, State.sendBerth_some h']
      rfl

/-- A good dock frame that finds an open call (R4, R6): the silence deadline moves, except in SUSPENDED. -/
theorem State.onDock_fit {α : Type} {s : State} {b : BerthId} {c : Call} (h : s.keep.run = .running)
    (hc : s.call b = some c) (a : α) (f : α → State → State × DockReply) :
    s.onDock b (.fit a) f
      = (f a (s.setBerth b { s.berth b with call := some (c.heard s.now) })).1.replyDock b
          (some (f a (s.setBerth b { s.berth b with call := some (c.heard s.now) })).2) := by
  have hh : (c.heard s.now).stage = c.stage ∧ (c.heard s.now).suspended = c.suspended
      ∧ (c.heard s.now).isOver = c.isOver := by
    unfold Call.heard; split <;> exact ⟨rfl, rfl, rfl⟩
  unfold State.onDock
  rw [State.whenRunning_of h]
  simp only [State.updCall_some hc, State.setCall_same hc hh.1 hh.2.1 hh.2.2]

/-- A good dock frame that finds the berth VACANT. -/
theorem State.onDock_fit_vacant {α : Type} {s : State} {b : BerthId} (h : s.keep.run = .running)
    (hc : s.call b = none) (a : α) (f : α → State → State × DockReply) :
    s.onDock b (.fit a) f = (f a s).1.replyDock b (some (f a s).2) := by
  unfold State.onDock
  rw [State.whenRunning_of h]
  simp only [State.updCall_none hc]

/-! ## The lists of entries -/

theorem entries_find {p : Entry → Bool} {older younger : List Entry} {e : Entry} (h : ∀ x ∈ older, p x = false)
    (he : p e = true) : (older ++ e :: younger).find? p = some e := by
  induction older with
  | nil => simp [he]
  | cons a rest ih =>
    rw [List.cons_append, List.find?_cons, h a (List.mem_cons_self ..)]
    exact ih fun x hx => h x (List.mem_cons_of_mem _ hx)

theorem entries_erase {p : Entry → Bool} {older younger : List Entry} {e : Entry} (h : ∀ x ∈ older, p x = false)
    (he : p e = true) : (older ++ e :: younger).eraseP p = older ++ younger := by
  induction older with
  | nil => simp [he]
  | cons a rest ih =>
    have ha := h a (List.mem_cons_self ..)
    rw [List.cons_append, List.eraseP_cons_of_neg (by simp [ha]), ih fun x hx => h x (List.mem_cons_of_mem _ hx)]
    rfl

theorem entries_replace {p : Entry → Bool} {older younger : List Entry} {e : Entry} (f : Entry → Entry)
    (h : ∀ x ∈ older, p x = false) (he : p e = true) :
    replaceFirst p f (older ++ e :: younger) = older ++ f e :: younger := by
  induction older with
  | nil => simp [replaceFirst, he]
  | cons a rest ih =>
    have ha := h a (List.mem_cons_self ..)
    simp [replaceFirst, ha, ih fun x hx => h x (List.mem_cons_of_mem _ hx)]

/-- A TAP's instant checks read neither the lane's statistics nor its reply (R108 to R114). -/
theorem State.judgeTap_updLane (s : State) (l : LaneId) (token : TokenRecord) (f : Lane → Lane)
    (hf : ∀ x, (f x).role = x.role ∧ (f x).cond = x.cond ∧ (f x).entries = x.entries ∧ (f x).settings = x.settings) :
    (s.updLane l f).judgeTap l token = s.judgeTap l token := by
  obtain ⟨h1, h2, h3, h4⟩ := hf (s.lane l)
  simp [State.judgeTap, h1, h2, h3, h4, State.tapProgress, State.currentLine, State.judgeToken]

/-- A refused TAP's progress carries its token record and arrival time, and no deny flag (R107, R108). -/
theorem State.judgeTap_refuse {s : State} {l : LaneId} {token : TokenRecord} {p : Progress} {r : Reason}
    (h : s.judgeTap l token = .refuse p r) :
    p.token = token ∧ p.arrival = { calendar := s.clock.calendar, base := s.now } ∧ p.flags = .clear := by
  unfold State.judgeTap State.judgeToken at h
  repeat' split at h
  all_goals first | (cases h; exact ⟨rfl, rfl, rfl⟩) | cases h

/-- A TAP past check 7 carries its token record and its time (R108). -/
theorem State.judgeTap_pass {s : State} {l : LaneId} {token : TokenRecord} {e : Evaluation}
    (h : s.judgeTap l token = .pass e) : e.token = token ∧ e.base = s.now ∧ s.clock.calendar = some e.time := by
  unfold State.judgeTap State.judgeToken at h
  repeat' split at h
  all_goals first | (cases h; exact ⟨rfl, rfl, by assumption⟩) | cases h

end Sys2Proof.Machine
end

