-- ==== Sys2Proof/WellFormed.lean ====
section
/-!
DEFINITION. Which commands are well formed: the operands can be what the command's physical source delivers. Every
other range is judged by the command's own meaning, which answers for any operand.
-/
namespace Sys2Proof

/-- The most field bytes a frame holds: its length field counts the fields, the kind and the check in two bytes
(R222). -/
def maxFieldBytes : Nat := 65532

/-- The fields of a TAP frame fit in a frame. -/
def tapFieldsFit (fields : List Byte) : Bool := decide (fields.length ≤ maxFieldBytes)

/-- A flash page is 256 bytes (00_scope.md, Conventions). -/
def isPage (p : Page) : Bool := decide (p.length = 256)

/-- Each read of a page delivers one whole page (R171, R173). -/
def readsWhole (r : FlashReads) : Bool := isPage r.first && isPage r.second && isPage r.third

/-- A command is well formed. -/
def Instr.wf : Instr → Bool
  | .tap _ fields => tapFieldsFit fields
  | .pageReadEnd reads => readsWhole reads
  | _ => true

end Sys2Proof
end

