-- ==== Sys2Proof/Laws/PerInstr.lean ====
section
/-!
SUPPORT. Statements made of each command as syntax. Framed: a command that a received frame spells is well formed (its
fields fit in a frame).
-/
namespace Sys2Proof.Laws.Framed

/-- Whatever frame spells the command, the command is well formed (R222). -/
def Statement (i : Instr) : Prop :=
  ∀ (l : LaneId) (b : BerthId) (frame : List Byte),
    laneCommand l frame = some i ∨ dockCommand b frame = some i ∨ stationCommand frame = some i → i.wf = true

/-- Two bytes hold a number below 2^16. -/
theorem numAt_two (bs : List Byte) (i : Nat) : Machine.numAt bs i 2 ≤ 65535 := by
  unfold Machine.numAt Machine.bytesToNat
  match h : (bs.drop i).take 2 with
  | [] => simp
  | [x] => have := x.isLt; simp; omega
  | [x, y] => have := x.isLt; have := y.isLt; simp; omega
  | x :: y :: z :: rest =>
    have hl := congrArg List.length h
    simp [List.length_take] at hl
    omega

/-- The fields of a good frame fit in it: its length counts them, the kind and the check (R222). -/
theorem judgeLinkFrame_fields {bs : List Byte} {kind : Byte} {fields : List Byte}
    (h : Machine.judgeLinkFrame bs = .good kind fields) : fields.length ≤ maxFieldBytes := by
  have hn := numAt_two bs 0
  unfold Machine.judgeLinkFrame at h
  dsimp only at h
  split at h
  · cases h
  · split at h
    · cases h
      simp [maxFieldBytes]
      omega
    · cases h

theorem tap (lane : LaneId) (fields : List Byte) : Statement (.tap lane fields) := by
  intro l b frame h
  have key : ∀ kind, Machine.judgeLinkFrame frame = .good kind fields → Instr.wf (.tap lane fields) = true := by
    intro kind hk
    simpa [Instr.wf, tapFieldsFit] using judgeLinkFrame_fields hk
  unfold laneCommand dockCommand stationCommand at h
  rcases h with h | h | h
  · split at h
    · cases h
    · rename_i kind _ hk
      split at h
      · cases h; exact key kind hk
      · cases h
    all_goals cases h
  · split at h <;> cases h
  · split at h <;> cases h

theorem take (lane : LaneId) : Statement (.take lane) := fun _ _ _ _ => rfl
theorem wroteOk (lane : LaneId) : Statement (.wroteOk lane) := fun _ _ _ _ => rfl
theorem wroteFailed (lane : LaneId) : Statement (.wroteFailed lane) := fun _ _ _ _ => rfl
theorem laneStatus (lane : LaneId) : Statement (.laneStatus lane) := fun _ _ _ _ => rfl
theorem laneBadFrame (lane : LaneId) : Statement (.laneBadFrame lane) := fun _ _ _ _ => rfl
theorem laneUnknownMessage (lane : LaneId) : Statement (.laneUnknownMessage lane) := fun _ _ _ _ => rfl
theorem arrive (berth : BerthId) (fields : Fields ArriveArgs) : Statement (.arrive berth fields) := fun _ _ _ _ => rfl
theorem rampOpen (berth : BerthId) (fields : Fields Unit) : Statement (.rampOpen berth fields) := fun _ _ _ _ => rfl
theorem countQuery (berth : BerthId) (fields : Fields Unit) :
    Statement (.countQuery berth fields) := fun _ _ _ _ => rfl
theorem departReq (berth : BerthId) (fields : Fields Unit) : Statement (.departReq berth fields) := fun _ _ _ _ => rfl
theorem handoverTaken (berth : BerthId) (fields : Fields Unit) :
    Statement (.handoverTaken berth fields) := fun _ _ _ _ => rfl
theorem dockBadFrame (berth : BerthId) : Statement (.dockBadFrame berth) := fun _ _ _ _ => rfl
theorem dockUnknownMessage (berth : BerthId) : Statement (.dockUnknownMessage berth) := fun _ _ _ _ => rfl
theorem silenceDeadline (berth : BerthId) : Statement (.silenceDeadline berth) := fun _ _ _ _ => rfl
theorem closingDeadline (berth : BerthId) : Statement (.closingDeadline berth) := fun _ _ _ _ => rfl
theorem berthCommit (berth : BerthId) (lane : LaneId) : Statement (.berthCommit berth lane) := fun _ _ _ _ => rfl
theorem berthRelease (berth : BerthId) (lane : LaneId) : Statement (.berthRelease berth lane) := fun _ _ _ _ => rfl
theorem rawLevelChange (lane : LaneId) (level : Level) : Statement (.rawLevelChange lane level) := fun _ _ _ _ => rfl
theorem debounceDeadline (lane : LaneId) : Statement (.debounceDeadline lane) := fun _ _ _ _ => rfl
theorem blockedDeadline (lane : LaneId) : Statement (.blockedDeadline lane) := fun _ _ _ _ => rfl
theorem verdictDeadline (lane : LaneId) : Statement (.verdictDeadline lane) := fun _ _ _ _ => rfl
theorem takeDeadline (lane : LaneId) : Statement (.takeDeadline lane) := fun _ _ _ _ => rfl
theorem writeDeadline (lane : LaneId) : Statement (.writeDeadline lane) := fun _ _ _ _ => rfl
theorem passageDeadline (lane : LaneId) (which : WhichEntry) :
    Statement (.passageDeadline lane which) := fun _ _ _ _ => rfl
theorem calendarSecond : Statement .calendarSecond := fun _ _ _ _ => rfl
theorem readStatus (fields : Fields Unit) : Statement (.readStatus fields) := fun _ _ _ _ => rfl
theorem readStats (fields : Fields Bool) : Statement (.readStats fields) := fun _ _ _ _ => rfl
theorem setClock (fields : Fields ClockArgs) : Statement (.setClock fields) := fun _ _ _ _ => rfl
theorem setLane (fields : Fields LaneArgs) : Statement (.setLane fields) := fun _ _ _ _ => rfl
theorem setLanding (fields : Fields LandingArgs) : Statement (.setLanding fields) := fun _ _ _ _ => rfl
theorem writeFare (fields : Fields WriteFareArgs) : Statement (.writeFare fields) := fun _ _ _ _ => rfl
theorem readFare (fields : Fields ReadFareArgs) : Statement (.readFare fields) := fun _ _ _ _ => rfl
theorem stagePlan (fields : Fields PlanArgs) : Statement (.stagePlan fields) := fun _ _ _ _ => rfl
theorem cancelPlan (fields : Fields Nat) : Statement (.cancelPlan fields) := fun _ _ _ _ => rfl
theorem setCap (fields : Fields CapArgs) : Statement (.setCap fields) := fun _ _ _ _ => rfl
theorem closeBerth (fields : Fields Nat) : Statement (.closeBerth fields) := fun _ _ _ _ => rfl
theorem reopenBerth (fields : Fields Nat) : Statement (.reopenBerth fields) := fun _ _ _ _ => rfl
theorem forceVacate (fields : Fields Nat) : Statement (.forceVacate fields) := fun _ _ _ _ => rfl
theorem laneClear (fields : Fields Nat) : Statement (.laneClear fields) := fun _ _ _ _ => rfl
theorem listBegin (fields : Fields Unit) : Statement (.listBegin fields) := fun _ _ _ _ => rfl
theorem listAdd (fields : Fields (List AddEntry)) : Statement (.listAdd fields) := fun _ _ _ _ => rfl
theorem listCommit (fields : Fields Unit) : Statement (.listCommit fields) := fun _ _ _ _ => rfl
theorem logPeek (fields : Fields Nat) : Statement (.logPeek fields) := fun _ _ _ _ => rfl
theorem logDrop (fields : Fields DropArgs) : Statement (.logDrop fields) := fun _ _ _ _ => rfl
theorem storeSettings (fields : Fields Unit) : Statement (.storeSettings fields) := fun _ _ _ _ => rfl
theorem restart (fields : Fields Unit) : Statement (.restart fields) := fun _ _ _ _ => rfl
theorem rttQuery (fields : Fields TokenId) : Statement (.rttQuery fields) := fun _ _ _ _ => rfl
theorem emptyFrame : Statement .emptyFrame := fun _ _ _ _ => rfl
theorem stationBadFrame : Statement .stationBadFrame := fun _ _ _ _ => rfl
theorem stationUnknownCommand (kind : Byte) : Statement (.stationUnknownCommand kind) := fun _ _ _ _ => rfl
theorem portGrant : Statement .portGrant := fun _ _ _ _ => rfl
theorem suspendIssue : Statement .suspendIssue := fun _ _ _ _ => rfl
theorem suspendEnd (status : SuspendStatus) : Statement (.suspendEnd status) := fun _ _ _ _ => rfl
theorem pageReadEnd (reads : FlashReads) : Statement (.pageReadEnd reads) := by
  intro l b frame h
  unfold laneCommand dockCommand stationCommand at h
  repeat' (first | (rcases h with h | h) | (split at h))

theorem pageProgramEnd (good : Bool) : Statement (.pageProgramEnd good) := fun _ _ _ _ => rfl
theorem sectorEraseEnd (good : Bool) : Statement (.sectorEraseEnd good) := fun _ _ _ _ => rfl
theorem flashResetEnd : Statement .flashResetEnd := fun _ _ _ _ => rfl
theorem operationTimeLimit : Statement .operationTimeLimit := fun _ _ _ _ => rfl
theorem resetInputAssert : Statement .resetInputAssert := fun _ _ _ _ => rfl
theorem resetInputRelease : Statement .resetInputRelease := fun _ _ _ _ => rfl
theorem coreSupplyRise (retentionLow : Bool) : Statement (.coreSupplyRise retentionLow) := fun _ _ _ _ => rfl
theorem coreSupplyFall : Statement .coreSupplyFall := fun _ _ _ _ => rfl
theorem retentionSupplyDip : Statement .retentionSupplyDip := fun _ _ _ _ => rfl
theorem flashReadyTimeout : Statement .flashReadyTimeout := fun _ _ _ _ => rfl

end Sys2Proof.Laws.Framed
end

