-- ==== Sys2Proof/Laws/Quiet.lean ====
section
/-!
SUPPORT. What the events of lanes and berths leave alone, said once: `Quiet s t`. Each shared operation over lanes,
berths, the trip log, the recent-tap table and the lookup queue has one lemma.
-/
namespace Sys2Proof.Machine

/-- `t` differs from `s` at most in the lanes' contexts, lists, take state, statistics and replies, the berth records,
the recent-tap table, the lookup queue, the page read in progress with the grant and the streak count, the trip log and
what is asked of it, the latched causes and the landing statistics. -/
structure Quiet (s t : State) : Prop where
  clock : t.clock = s.clock
  keep : t.keep = s.keep
  fare : t.fare = s.fare
  pending : t.pending = s.pending
  landing : t.station.landing = s.station.landing
  pendingReply : t.station.pendingReply = s.station.pendingReply
  shiftedOut : t.station.shiftedOut = s.station.shiftedOut
  deny : { t.deny with queue := s.deny.queue } = s.deny
  port : { t.port with op := s.port.op, due := s.port.due, streak := s.port.streak } = s.port
  op : t.port.op = s.port.op ∨ ∃ who page, t.port.op = some (.pageRead who page)
  role : ∀ l, (t.lane l).role = (s.lane l).role
  settings : ∀ l, (t.lane l).settings = (s.lane l).settings
  cond : ∀ l, (t.lane l).cond = (s.lane l).cond
  plan : ∀ b, (t.berth b).plan = (s.berth b).plan

namespace Quiet

theorem refl (s : State) : Quiet s s :=
  ⟨rfl, rfl, rfl, rfl, rfl, rfl, rfl, rfl, rfl, .inl rfl, fun _ => rfl, fun _ => rfl, fun _ => rfl, fun _ => rfl⟩

theorem trans {s t u : State} (h : Quiet s t) (k : Quiet t u) : Quiet s u := by
  refine ⟨k.clock.trans h.clock, k.keep.trans h.keep, k.fare.trans h.fare, k.pending.trans h.pending,
    k.landing.trans h.landing, k.pendingReply.trans h.pendingReply, k.shiftedOut.trans h.shiftedOut, ?_, ?_,
    ?_, fun l => (k.role l).trans (h.role l), fun l => (k.settings l).trans (h.settings l),
    fun l => (k.cond l).trans (h.cond l), fun b => (k.plan b).trans (h.plan b)⟩
  · rw [← h.deny, ← k.deny]
  · rw [← h.port, ← k.port]
  · rcases k.op with hk | hk
    · rcases h.op with hh | hh
      · exact .inl (hk.trans hh)
      · rw [hk]; exact .inr hh
    · exact .inr hk

theorem running {s t : State} (h : Quiet s t) : t.running = s.running := by
  unfold State.running; rw [h.keep]

theorem now {s t : State} (h : Quiet s t) : t.now = s.now := by unfold State.now; rw [h.clock]

end Quiet

/-- A lane changed in none of its role, settings and conditioner. -/
theorem State.updLane_quiet (s : State) (l : LaneId) (f : Lane → Lane)
    (h : ∀ x, (f x).role = x.role ∧ (f x).settings = x.settings ∧ (f x).cond = x.cond) : Quiet s (s.updLane l f) := by
  refine ⟨rfl, rfl, rfl, rfl, rfl, rfl, rfl, rfl, rfl, .inl rfl, ?_, ?_, ?_, fun _ => rfl⟩ <;> intro k <;>
    by_cases e : k = l
  · subst e; rw [s.updLane_lane]; exact (h _).1
  · rw [s.updLane_other f e]
  · subst e; rw [s.updLane_lane]; exact (h _).2.1
  · rw [s.updLane_other f e]
  · subst e; rw [s.updLane_lane]; exact (h _).2.2
  · rw [s.updLane_other f e]

theorem State.withLog_quiet (s : State) (g : TripLog) : Quiet s (s.withLog g) :=
  ⟨rfl, rfl, rfl, rfl, rfl, rfl, rfl, rfl, rfl, .inl rfl, fun _ => rfl, fun _ => rfl, fun _ => rfl, fun _ => rfl⟩

theorem State.withTaps_quiet (s : State) (t : List TapEntry) : Quiet s (s.withTaps t) :=
  ⟨rfl, rfl, rfl, rfl, rfl, rfl, rfl, rfl, rfl, .inl rfl, fun _ => rfl, fun _ => rfl, fun _ => rfl, fun _ => rfl⟩

theorem State.latch_quiet (s : State) (f : Causes → Causes) : Quiet s (s.latch f) :=
  ⟨rfl, rfl, rfl, rfl, rfl, rfl, rfl, rfl, rfl, .inl rfl, fun _ => rfl, fun _ => rfl, fun _ => rfl, fun _ => rfl⟩

theorem State.count_quiet (s : State) (f : LandingStats → LandingStats) : Quiet s (s.count f) :=
  ⟨rfl, rfl, rfl, rfl, rfl, rfl, rfl, rfl, rfl, .inl rfl, fun _ => rfl, fun _ => rfl, fun _ => rfl, fun _ => rfl⟩

theorem State.withQueueField_quiet (s : State) (queue : List Lookup) :
    Quiet s (s.withDeny { s.deny with queue := queue }) :=
  ⟨rfl, rfl, rfl, rfl, rfl, rfl, rfl, rfl, rfl, .inl rfl, fun _ => rfl, fun _ => rfl, fun _ => rfl, fun _ => rfl⟩

theorem State.setBerth_quiet (s : State) (b : BerthId) (x : Berth) (h : x.plan = (s.berth b).plan) :
    Quiet s (s.setBerth b x) := by
  refine ⟨rfl, rfl, rfl, rfl, rfl, rfl, rfl, rfl, rfl, .inl rfl, fun _ => rfl, fun _ => rfl, fun _ => rfl,
    fun k => ?_⟩
  by_cases e : k = b
  · subst e; rw [s.setBerth_berth]; exact h
  · rw [s.setBerth_other x e]

theorem State.countLane_quiet (s : State) (l : LaneId) (f : LaneStats → LaneStats) : Quiet s (s.countLane l f) :=
  s.updLane_quiet l _ fun _ => ⟨rfl, rfl, rfl⟩

theorem State.replyLane_quiet (s : State) (l : LaneId) (r : Option LaneReply) : Quiet s (s.replyLane l r) :=
  s.updLane_quiet l _ fun _ => ⟨rfl, rfl, rfl⟩

theorem State.setContext_quiet (s : State) (l : LaneId) (c : Context) : Quiet s (s.setContext l c) :=
  s.updLane_quiet l _ fun _ => ⟨rfl, rfl, rfl⟩

theorem State.replyDock_quiet (s : State) (b : BerthId) (r : Option DockReply) : Quiet s (s.replyDock b r) :=
  s.setBerth_quiet b _ rfl

theorem State.appendReserved_quiet (s : State) (c : Content) : Quiet s (s.appendReserved c) := s.withLog_quiet _

theorem State.appendUnreserved_quiet (s : State) (c : Content) : Quiet s (s.appendUnreserved c) := by
  unfold State.appendUnreserved
  split
  · exact s.withLog_quiet _
  · exact s.count_quiet _

theorem State.withAsked_quiet (s : State) (cs : List Content) : Quiet s (s.withAsked cs) :=
  ⟨rfl, rfl, rfl, rfl, rfl, rfl, rfl, rfl, rfl, .inl rfl, fun _ => rfl, fun _ => rfl, fun _ => rfl, fun _ => rfl⟩

theorem State.appendAll_quiet (cs : List Content) (s : State) : Quiet s (cs.foldl State.appendUnreserved s) := by
  induction cs generalizing s with
  | nil => exact .refl s
  | cons c rest ih => exact (s.appendUnreserved_quiet c).trans (ih _)

theorem State.takeAsked_quiet (s : State) : Quiet s s.takeAsked :=
  (s.withAsked_quiet []).trans (State.appendAll_quiet _ _)

theorem State.askRefusal_quiet (s : State) (r : Reason) (c : Content) : Quiet s (s.askRefusal r c) := by
  unfold State.askRefusal
  split
  · exact s.withAsked_quiet _
  · exact s.takeAsked_quiet.trans (State.appendUnreserved_quiet _ _)

theorem State.releaseSlot_quiet (s : State) : Quiet s s.releaseSlot := s.withLog_quiet _

theorem State.releaseUse_quiet (s : State) (id : TokenId) : Quiet s (s.releaseUse id) := s.withTaps_quiet _

theorem State.setCall_quiet (s : State) (b : BerthId) (c : Option Call) : Quiet s (s.setCall b c) := by
  have h := s.setBerth_quiet b { s.berth b with call := c } rfl
  unfold State.setCall
  dsimp only
  split
  · exact h.trans (State.latch_quiet _ _)
  · exact h

theorem State.updCall_quiet (s : State) (b : BerthId) (f : Call → Call) : Quiet s (s.updCall b f) := by
  unfold State.updCall
  split
  · exact s.setCall_quiet _ _
  · exact .refl s

theorem State.sendBerth_quiet (s : State) (b : BerthId) (l : LaneId) (m : Holding) : Quiet s (s.sendBerth b l m) :=
  s.updCall_quiet _ _

theorem State.sendHolding_quiet (s : State) (b : Option BerthId) (l : LaneId) (m : Holding) :
    Quiet s (s.sendHolding b l m) := by
  unfold State.sendHolding
  split
  · exact s.sendBerth_quiet _ _ _
  · exact .refl s

theorem State.takeAllInFlight_quiet (s : State) (b : BerthId) : Quiet s (s.takeAllInFlight b) := s.updCall_quiet _ _

theorem State.claimPlace_quiet (s : State) (b : BerthId) (l : LaneId) : Quiet s (s.claimPlace b l).1 := by
  unfold State.claimPlace
  split
  · exact .refl s
  · exact .refl s
  · dsimp only
    split <;> exact s.setCall_quiet _ _

theorem State.dropOffer_quiet (s : State) (l : LaneId) (o : Offer) : Quiet s (s.dropOffer l o) := by
  unfold State.dropOffer
  dsimp only
  refine Quiet.trans ?_ (State.sendHolding_quiet _ _ _ _)
  refine Quiet.trans ?_ (State.updLane_quiet _ l _ fun _ => ⟨rfl, rfl, rfl⟩)
  exact (s.releaseUse_quiet _).trans (State.releaseSlot_quiet _)

theorem State.voidEntry_quiet (s : State) (l : LaneId) (e : Entry) (rest : List Entry) (r : VoidReason) :
    Quiet s (s.voidEntry l e rest r) := by
  unfold State.voidEntry
  dsimp only
  refine Quiet.trans ?_ (State.sendHolding_quiet _ _ _ _)
  refine Quiet.trans ?_ (State.releaseUse_quiet _ _)
  refine Quiet.trans ?_ (State.appendReserved_quiet _ _)
  exact State.updLane_quiet _ l _ fun _ => ⟨rfl, rfl, rfl⟩

theorem State.voidList_quiet (l : LaneId) (r : VoidReason) (es : List Entry) (s : State) :
    Quiet s (s.voidList l r es) := by
  induction es generalizing s with
  | nil => exact .refl s
  | cons e rest ih => exact (s.voidEntry_quiet l e rest r).trans (ih _)

theorem State.voidAll_quiet (s : State) (l : LaneId) (r : VoidReason) : Quiet s (s.voidAll l r) :=
  State.voidList_quiet l r _ s

theorem State.dropIfOffer_quiet (s : State) (l : LaneId) : Quiet s (s.dropIfOffer l) := by
  unfold State.dropIfOffer
  split
  · exact s.dropOffer_quiet _ _
  all_goals exact .refl s

theorem State.endHoldings_quiet (s : State) (l : LaneId) (r : VoidReason) : Quiet s (s.endHoldings l r) :=
  (s.dropIfOffer_quiet l).trans (State.voidAll_quiet _ l r)

theorem State.endBerthHoldings_quiet (b : BerthId) (r : VoidReason) (ls : List LaneId) (s : State) :
    Quiet s (s.endBerthHoldings b r ls) := by
  induction ls generalizing s with
  | nil => exact .refl s
  | cons l rest ih =>
    unfold State.endBerthHoldings
    split
    · exact (s.endHoldings_quiet l r).trans (ih _)
    · exact ih s

theorem State.releaseHoldings_quiet (s : State) (b : BerthId) (r : VoidReason) : Quiet s (s.releaseHoldings b r) :=
  (State.endBerthHoldings_quiet b r _ s).trans (State.takeAllInFlight_quiet _ b)

theorem State.endCall_quiet (s : State) (b : BerthId) (n : Bool) : Quiet s (s.endCall b n) := by
  unfold State.endCall
  split
  · exact (s.appendReserved_quiet _).trans (State.setCall_quiet _ _ _)
  · exact .refl s

theorem State.removeLookup_quiet (s : State) (l : LaneId) : Quiet s (s.removeLookup l) := by
  have h := s.withQueueField_quiet (s.deny.queue.filter fun q => decide (q.lane ≠ l))
  unfold State.removeLookup DenyUnit.withoutLookup
  dsimp only
  split
  · exact h.trans ⟨rfl, rfl, rfl, rfl, rfl, rfl, rfl, rfl, rfl, .inr ⟨_, _, rfl⟩, fun _ => rfl, fun _ => rfl,
      fun _ => rfl, fun _ => rfl⟩
  · exact h

theorem State.grantRead_quiet (s : State) (w : Bool) : Quiet s (s.grantRead w) := by
  unfold State.grantRead
  split
  · rename_i q rest hq
    have h : Quiet s (s.countStart q) := by
      unfold State.countStart
      split
      · exact s.count_quiet _
      · exact .refl s
    refine h.trans ⟨rfl, rfl, rfl, rfl, rfl, rfl, rfl, ?_, ?_, .inr ⟨_, _, rfl⟩, fun _ => rfl, fun _ => rfl,
      fun _ => rfl, fun _ => rfl⟩
    · have e : (s.countStart q).deny = s.deny := by unfold State.countStart; split <;> rfl
      simp only [State.withPort_deny, State.withDeny_deny, e, DenyUnit.startRead, hq]
      rw [← hq]
    · have e : (s.countStart q).port = s.port := by unfold State.countStart; split <;> rfl
      simp only [State.withPort_port, e, FlashPort.grantLookup]
  · exact ⟨rfl, rfl, rfl, rfl, rfl, rfl, rfl, rfl, rfl, .inl rfl, fun _ => rfl, fun _ => rfl, fun _ => rfl,
      fun _ => rfl⟩

theorem State.withdrawLookup_quiet (s : State) (l : LaneId) : Quiet s (s.withdrawLookup l) := by
  unfold State.withdrawLookup
  split
  · exact (s.grantRead_quiet _).trans (State.removeLookup_quiet _ l)
  · exact s.removeLookup_quiet l

theorem State.arbitrate_quiet (s : State) : Quiet s s.arbitrate := by
  unfold State.arbitrate FlashPort.arbitrate
  split
  · exact ⟨rfl, rfl, rfl, rfl, rfl, rfl, rfl, rfl, rfl, .inl rfl, fun _ => rfl, fun _ => rfl, fun _ => rfl,
      fun _ => rfl⟩
  · exact .refl s

theorem State.cancelEvaluation_quiet (s : State) (l : LaneId) : Quiet s (s.cancelEvaluation l) :=
  (s.withdrawLookup_quiet l).trans (State.setContext_quiet _ _ _)

/-- What answering a TAKE leaves of its lane. -/
theorem Lane.answerTake_keeps (x : Lane) (now : Nat) :
    (x.answerTake now).role = x.role ∧ (x.answerTake now).settings = x.settings ∧ (x.answerTake now).cond = x.cond := by
  unfold Lane.answerTake
  split <;> exact ⟨rfl, rfl, rfl⟩

theorem State.settle_quiet (s : State) (l : LaneId) : Quiet s (s.settle l) := by
  unfold State.settle
  split
  · exact s.updLane_quiet l _ fun x => Lane.answerTake_keeps { x with takeHeld := false } s.now
  · exact .refl s

theorem State.decideRefuse_quiet (s : State) (l : LaneId) (p : Progress) (r : Reason) (d : Option Nat) :
    Quiet s (s.decideRefuse l p r d) := by
  unfold State.decideRefuse
  dsimp only
  refine Quiet.trans (t := s.updLane l fun x =>
    { x with ctx := .refused (p.refused r d), stats := { x.stats with refused := bump x.stats.refused } })
    (s.updLane_quiet l _ fun _ => ⟨rfl, rfl, rfl⟩) ?_
  split
  · exact (State.askRefusal_quiet _ _ _).trans (State.settle_quiet _ _)
  · exact State.settle_quiet _ _

theorem State.decideOffer_quiet (s : State) (l : LaneId) (o : Offer) : Quiet s (s.decideOffer l o) := by
  unfold State.decideOffer
  refine Quiet.trans ?_ (State.settle_quiet _ _)
  exact State.updLane_quiet _ l _ fun _ => ⟨rfl, rfl, rfl⟩

theorem State.decidePlace_quiet (s : State) (l : LaneId) (e : Evaluation) (o : Offer) :
    Quiet s (s.decidePlace l e o) := by
  unfold State.decidePlace
  split
  · exact s.decideOffer_quiet _ _
  · rename_i b _
    have h := s.claimPlace_quiet b l
    split
    · rename_i hc; rw [hc] at h; exact h.trans (State.decideOffer_quiet _ _ _)
    · rename_i hc; rw [hc] at h
      exact ((h.trans (State.releaseSlot_quiet _)).trans (State.releaseUse_quiet _ _)).trans
        (State.decideRefuse_quiet _ _ _ _ _)

theorem State.decideClaims_quiet (s : State) (l : LaneId) (e : Evaluation) (f : DenyFlags) :
    Quiet s (s.decideClaims l e f) := by
  unfold State.decideClaims
  split
  · exact s.decideRefuse_quiet _ _ _ _
  · split
    · exact s.decideRefuse_quiet _ _ _ _
    · split
      · exact ((s.withTaps_quiet _).trans (State.releaseUse_quiet _ _)).trans (State.decideRefuse_quiet _ _ _ _ _)
      · exact ((s.withTaps_quiet _).trans (State.withLog_quiet _ _)).trans (State.decidePlace_quiet _ _ _ _)

theorem State.applyPolicy_quiet (s : State) (l : LaneId) (e : Evaluation) : Quiet s (s.applyPolicy l e) := by
  unfold State.applyPolicy
  split
  · exact s.decideClaims_quiet _ _ _
  · exact s.decideRefuse_quiet _ _ _ _

theorem State.decideLookup_quiet (s : State) (l : LaneId) (e : Evaluation) (o : LookupOutcome) :
    Quiet s (s.decideLookup l e o) := by
  unfold State.decideLookup
  split
  · exact s.decideClaims_quiet _ _ _
  · exact s.decideClaims_quiet _ _ _
  · exact s.decideRefuse_quiet _ _ _ _
  · exact s.applyPolicy_quiet _ _

end Sys2Proof.Machine
end

