-- ==== Sys2Proof/Laws/Reserve.lean ====
section
/-!
SUPPORT. The reserve of the trip log through the shared operations (R190 to R194): each either keeps `LogLaw`, or its
lemma says which slot it gains or gives up.
-/
namespace Sys2Proof.Machine

/-- The reserve law with `k` slots held by nobody in the lanes and berths: a decision's, between its claim and its
verdict. -/
def LogLawWith (k : Nat) (s : State) : Prop :=
  s.log.reserve = s.holdings + s.openCalls + k ∧ s.log.records.length + s.log.reserve ≤ 1024

theorem logLawWith_zero (s : State) : LogLawWith 0 s ↔ LogLaw s := Iff.rfl

/-- The law reads only the log, the lanes' holdings and the number of open calls. -/
theorem LogLawWith.congr {k : Nat} {s t : State} (h : LogLawWith k s) (hg : t.log = s.log)
    (hh : t.holdings = s.holdings) (ho : t.openCalls = s.openCalls) : LogLawWith k t := by
  unfold LogLawWith at *; rw [hg, hh, ho]; exact h

/-- The holdings after one lane is changed. -/
theorem State.updLane_holdings (s : State) (l : LaneId) (f : Lane → Lane) :
    (s.updLane l f).holdings + (s.lane l).holdings = s.holdings + (f (s.lane l)).holdings :=
  PerLane.sum_set Lane.holdings s.lanes l (f (s.lane l))

/-- A lane's holdings are part of all holdings. -/
theorem State.lane_holdings_le (s : State) (l : LaneId) : (s.lane l).holdings ≤ s.holdings :=
  PerLane.le_sum Lane.holdings s.lanes l

/-- A lane changed without a change of its holdings. -/
theorem LogLawWith.updLane {k : Nat} {s : State} (h : LogLawWith k s) (l : LaneId) (f : Lane → Lane)
    (hf : (f (s.lane l)).holdings = (s.lane l).holdings) : LogLawWith k (s.updLane l f) := by
  have := s.updLane_holdings l f
  exact h.congr rfl (by omega) rfl

/-- The open calls after one berth is replaced. -/
theorem State.setBerth_openCalls (s : State) (b : BerthId) (x : Berth) :
    (s.setBerth b x).openCalls + (s.berth b).openCount = s.openCalls + x.openCount := by
  cases b <;> simp only [State.openCalls, State.setBerth_berths, PerBerth.set, State.berth, PerBerth.get] <;> omega

/-- An open call replaced by another record of an open call, or VACANT by VACANT. -/
theorem LogLawWith.setCall {k : Nat} {s : State} (h : LogLawWith k s) (b : BerthId) (c : Option Call)
    (hc : c.isSome = (s.call b).isSome) : LogLawWith k (s.setCall b c) := by
  have e : Berth.openCount { s.berth b with call := c } = (s.berth b).openCount := by
    simp only [Berth.openCount, hc, State.call]
  have ho : (s.setBerth b { s.berth b with call := c }).openCalls = s.openCalls := by
    have := s.setBerth_openCalls b { s.berth b with call := c }
    rw [e] at this
    exact Nat.add_right_cancel this
  unfold State.setCall
  dsimp only
  split
  · exact h.congr rfl rfl ho
  · exact h.congr rfl rfl ho

theorem LogLawWith.updCall {k : Nat} {s : State} (h : LogLawWith k s) (b : BerthId) (f : Call → Call) :
    LogLawWith k (s.updCall b f) := by
  unfold State.updCall
  split
  · rename_i c hc; exact h.setCall b _ (by simp [hc])
  · exact h

theorem LogLawWith.sendHolding {k : Nat} {s : State} (h : LogLawWith k s) (b : Option BerthId) (l : LaneId)
    (m : Holding) : LogLawWith k (s.sendHolding b l m) := by
  unfold State.sendHolding
  split
  · exact h.updCall _ _
  · exact h

theorem LogLawWith.withTaps {k : Nat} {s : State} (h : LogLawWith k s) (t : List TapEntry) :
    LogLawWith k (s.withTaps t) := h

theorem LogLawWith.releaseUse {k : Nat} {s : State} (h : LogLawWith k s) (id : TokenId) :
    LogLawWith k (s.releaseUse id) := h

/-- A reserved append ends one held slot (R193). -/
theorem LogLawWith.appendReserved {k : Nat} {s : State} (h : LogLawWith (k + 1) s) (c : Content) :
    LogLawWith k (s.appendReserved c) := by
  obtain ⟨h1, h2⟩ := h
  refine ⟨?_, ?_⟩
  · show s.log.reserve - 1 = s.holdings + s.openCalls + k
    omega
  · show (s.log.records ++ [_]).length + (s.log.reserve - 1) ≤ 1024
    simp only [List.length_append, List.length_singleton]
    omega

/-- A release ends one held slot (R192). -/
theorem LogLawWith.releaseSlot {k : Nat} {s : State} (h : LogLawWith (k + 1) s) : LogLawWith k s.releaseSlot := by
  obtain ⟨h1, h2⟩ := h
  refine ⟨?_, ?_⟩
  · show s.log.reserve - 1 = s.holdings + s.openCalls + k
    omega
  · show s.log.records.length + (s.log.reserve - 1) ≤ 1024
    omega

/-- An unreserved append takes no held slot (R194). -/
theorem LogLawWith.appendUnreserved {k : Nat} {s : State} (h : LogLawWith k s) (c : Content) :
    LogLawWith k (s.appendUnreserved c) := by
  obtain ⟨h1, h2⟩ := h
  unfold State.appendUnreserved TripLog.appendUnreserved TripLog.room TripLog.freeSlots
  by_cases hr : s.log.reserve < 1024 - s.log.records.length
  · simp only [hr, decide_true, if_true]
    refine ⟨h1, ?_⟩
    show (s.log.records ++ [_]).length + s.log.reserve ≤ 1024
    simp only [List.length_append, List.length_singleton]
    omega
  · simp only [hr, decide_false, Bool.false_eq_true, if_false]
    exact ⟨h1, h2⟩

theorem LogLawWith.appendAll {k : Nat} (cs : List Content) (s : State) (h : LogLawWith k s) :
    LogLawWith k (cs.foldl State.appendUnreserved s) := by
  induction cs generalizing s with
  | nil => exact h
  | cons c rest ih => exact ih _ (h.appendUnreserved c)

/-- Asking for an append holds no slot (R126). -/
theorem LogLawWith.withAsked {k : Nat} {s : State} (h : LogLawWith k s) (cs : List Content) :
    LogLawWith k (s.withAsked cs) := h

theorem LogLawWith.takeAsked {k : Nat} {s : State} (h : LogLawWith k s) : LogLawWith k s.takeAsked :=
  LogLawWith.appendAll _ _ (h.withAsked [])

theorem LogLawWith.askRefusal {k : Nat} {s : State} (h : LogLawWith k s) (r : Reason) (c : Content) :
    LogLawWith k (s.askRefusal r c) := by
  unfold State.askRefusal
  split
  · exact h.withAsked _
  · exact h.takeAsked.appendUnreserved c

/-- A granted reservation holds one more slot (R191). -/
theorem LogLawWith.reserveSlot {k : Nat} {s : State} (h : LogLawWith k s) {g : TripLog}
    (hg : s.log.reserveSlot = some g) : LogLawWith (k + 1) (s.withLog g) := by
  obtain ⟨h1, h2⟩ := h
  unfold TripLog.reserveSlot TripLog.room TripLog.freeSlots at hg
  by_cases hr : s.log.reserve < 1024 - s.log.records.length
  · simp only [hr, decide_true, if_true, Option.some.injEq] at hg
    subst hg
    refine ⟨?_, ?_⟩
    · show s.log.reserve + 1 = s.holdings + s.openCalls + (k + 1)
      omega
    · show s.log.records.length + (s.log.reserve + 1) ≤ 1024
      omega
  · simp [hr] at hg

/-- A lane that gives up one holding leaves its slot held by nobody. -/
theorem LogLawWith.giveUp {k : Nat} {s : State} (h : LogLawWith k s) (l : LaneId) (f : Lane → Lane)
    (hf : (f (s.lane l)).holdings + 1 = (s.lane l).holdings) : LogLawWith (k + 1) (s.updLane l f) := by
  have hs := s.updLane_holdings l f
  obtain ⟨h1, h2⟩ := h
  exact ⟨by show s.log.reserve = _ + s.openCalls + _; omega, h2⟩

/-- A lane that takes up one holding takes a slot held by nobody. -/
theorem LogLawWith.takeUp {k : Nat} {s : State} (h : LogLawWith (k + 1) s) (l : LaneId) (f : Lane → Lane)
    (hf : (f (s.lane l)).holdings = (s.lane l).holdings + 1) : LogLawWith k (s.updLane l f) := by
  have hs := s.updLane_holdings l f
  obtain ⟨h1, h2⟩ := h
  exact ⟨by show s.log.reserve = _ + s.openCalls + _; omega, h2⟩

/-- A dropped offer (R49) gives its slot back. -/
theorem LogLawWith.dropOffer {k : Nat} {s : State} (h : LogLawWith k s) (l : LaneId) (o : Offer)
    (ho : (s.lane l).ctx = .offer o) : LogLawWith k (s.dropOffer l o) := by
  unfold State.dropOffer
  dsimp only
  refine LogLawWith.sendHolding ?_ _ _ _
  have h1 := h.giveUp l (fun x => { x with ctx := .free }) (by simp [Lane.holdings, ho, Context.offers]; omega)
  have h2 := h1.releaseSlot
  have hs1 := s.updLane_holdings l fun x => { x with ctx := .free }
  have hs2 := (s.releaseUse o.tokenId).releaseSlot.updLane_holdings l fun x =>
    { x with ctx := .free, takeDeadline := none,
             stats := { x.stats with offersDropped := bump x.stats.offersDropped } }
  refine h2.congr rfl ?_ rfl
  have e1 : (s.updLane l fun x => { x with ctx := .free }).releaseSlot.holdings
      = (s.updLane l fun x => { x with ctx := .free }).holdings := rfl
  have e2 : (s.releaseUse o.tokenId).releaseSlot.holdings = s.holdings := rfl
  have e3 : ((s.releaseUse o.tokenId).releaseSlot.lane l).holdings = (s.lane l).holdings := rfl
  have e4 : Lane.holdings { (s.releaseUse o.tokenId).releaseSlot.lane l with
      ctx := .free, takeDeadline := none,
      stats := { ((s.releaseUse o.tokenId).releaseSlot.lane l).stats with
        offersDropped := bump ((s.releaseUse o.tokenId).releaseSlot.lane l).stats.offersDropped } }
      = Lane.holdings { s.lane l with ctx := .free } := rfl
  simp only [e1, e2, e3] at *
  omega

/-- A void (R62) puts its record into the entry's slot. -/
theorem LogLawWith.voidEntry {k : Nat} {s : State} (h : LogLawWith k s) (l : LaneId) (e : Entry) (rest : List Entry)
    (r : VoidReason) (hr : rest.length + 1 = (s.lane l).entries.length) : LogLawWith k (s.voidEntry l e rest r) := by
  unfold State.voidEntry
  dsimp only
  refine LogLawWith.sendHolding ?_ _ _ _
  refine LogLawWith.releaseUse ?_ _
  refine LogLawWith.appendReserved ?_ _
  refine h.giveUp l _ ?_
  simp only [Lane.holdings]
  omega

theorem State.voidEntry_entries (s : State) (l : LaneId) (e : Entry) (rest : List Entry) (r : VoidReason) :
    ((s.voidEntry l e rest r).lane l).entries = rest := by
  unfold State.voidEntry State.sendHolding State.sendBerth State.updCall State.setCall State.latch
  dsimp only
  split
  · split
    · split <;> simp [State.releaseUse, State.appendReserved]
    · simp [State.releaseUse, State.appendReserved]
  · simp [State.releaseUse, State.appendReserved]

theorem LogLawWith.voidList {k : Nat} (l : LaneId) (r : VoidReason) (es : List Entry) (s : State)
    (h : LogLawWith k s) (he : (s.lane l).entries = es) : LogLawWith k (s.voidList l r es) := by
  induction es generalizing s with
  | nil => exact h
  | cons e rest ih =>
    exact ih _ (h.voidEntry l e rest r (by simp [he])) (s.voidEntry_entries l e rest r)

theorem LogLawWith.voidAll {k : Nat} {s : State} (h : LogLawWith k s) (l : LaneId) (r : VoidReason) :
    LogLawWith k (s.voidAll l r) := LogLawWith.voidList l r _ s h rfl

theorem LogLawWith.dropIfOffer {k : Nat} {s : State} (h : LogLawWith k s) (l : LaneId) :
    LogLawWith k (s.dropIfOffer l) := by
  unfold State.dropIfOffer
  split
  · rename_i o ho; exact h.dropOffer l o ho
  all_goals exact h

theorem LogLawWith.endHoldings {k : Nat} {s : State} (h : LogLawWith k s) (l : LaneId) (r : VoidReason) :
    LogLawWith k (s.endHoldings l r) := (h.dropIfOffer l).voidAll l r

theorem LogLawWith.endBerthHoldings {k : Nat} (b : BerthId) (r : VoidReason) (ls : List LaneId) (s : State)
    (h : LogLawWith k s) : LogLawWith k (s.endBerthHoldings b r ls) := by
  induction ls generalizing s with
  | nil => exact h
  | cons l rest ih =>
    unfold State.endBerthHoldings
    split
    · exact ih _ (h.endHoldings l r)
    · exact ih _ h

theorem LogLawWith.releaseHoldings {k : Nat} {s : State} (h : LogLawWith k s) (b : BerthId) (r : VoidReason) :
    LogLawWith k (s.releaseHoldings b r) :=
  (LogLawWith.endBerthHoldings b r LaneId.list s h).updCall b _

/-- The end of a call (R8) puts its record into the berth's slot. -/
theorem LogLawWith.endCall {k : Nat} {s : State} (h : LogLawWith k s) (b : BerthId) (n : Bool) :
    LogLawWith k (s.endCall b n) := by
  unfold State.endCall
  split
  · rename_i c hc
    have ho := s.setBerth_openCalls b { s.berth b with call := none }
    have e1 : (s.berth b).openCount = 1 := by
      have : (s.berth b).call = some c := hc
      simp [Berth.openCount, this]
    have e2 : Berth.openCount { s.berth b with call := none } = 0 := rfl
    obtain ⟨h1, h2⟩ := h
    have key : ∀ t : State, t.log = (s.log.appendReserved (c.departure s.clock.calendar n)) →
        t.holdings = s.holdings → t.openCalls = (s.setBerth b { s.berth b with call := none }).openCalls →
        LogLawWith k t := by
      intro t hg hh hoc
      refine ⟨?_, ?_⟩
      · rw [hg, hh, hoc]
        show s.log.reserve - 1 = _
        omega
      · rw [hg]
        show (s.log.records ++ [_]).length + (s.log.reserve - 1) ≤ 1024
        simp only [List.length_append, List.length_singleton]
        omega
    unfold State.setCall
    dsimp only
    split <;> exact key _ rfl rfl rfl
  · exact h

/-- Holdings when a TAKE is answered: an offer becomes an entry (R50). -/
theorem Lane.answerTake_holdings (x : Lane) (now : Nat) : (x.answerTake now).holdings = x.holdings := by
  unfold Lane.answerTake
  split
  · rename_i o ho; simp [Lane.holdings, ho, Context.offers]; omega
  · rename_i r hr; simp [Lane.holdings, hr, Context.offers]
  · rfl
  · rfl

theorem LogLawWith.settle {k : Nat} {s : State} (h : LogLawWith k s) (l : LaneId) : LogLawWith k (s.settle l) := by
  unfold State.settle
  split
  · exact h.updLane l _ (Lane.answerTake_holdings { s.lane l with takeHeld := false } s.now)
  · exact h

/-- A refusal (R125) at a lane that holds no offer. -/
theorem LogLawWith.decideRefuse {k : Nat} {s : State} (h : LogLawWith k s) (l : LaneId) (p : Progress) (r : Reason)
    (d : Option Nat) (hc : (s.lane l).ctx.offers = 0) : LogLawWith k (s.decideRefuse l p r d) := by
  unfold State.decideRefuse
  dsimp only
  refine LogLawWith.settle ?_ l
  have h1 := h.updLane l (fun x =>
    { x with ctx := .refused (p.refused r d), stats := { x.stats with refused := bump x.stats.refused } })
    (by show 0 + _ = (s.lane l).ctx.offers + _; rw [hc])
  split
  · exact h1.askRefusal _ _
  · exact h1

/-- An admission (R124) takes up the decision's slot. -/
theorem LogLawWith.decideOffer {k : Nat} {s : State} (h : LogLawWith (k + 1) s) (l : LaneId) (o : Offer)
    (hc : (s.lane l).ctx.offers = 0) : LogLawWith k (s.decideOffer l o) := by
  unfold State.decideOffer
  refine LogLawWith.settle ?_ l
  exact h.takeUp l _ (by show 1 + (s.lane l).entries.length = (s.lane l).ctx.offers + (s.lane l).entries.length + 1; omega)

/-- A place claim changes nothing at a lane, the log or the recent-tap table. -/
theorem State.claimPlace_keeps (s : State) (b : BerthId) (l : LaneId) :
    (s.claimPlace b l).1.lanes = s.lanes ∧ (s.claimPlace b l).1.log = s.log ∧ (s.claimPlace b l).1.taps = s.taps := by
  unfold State.claimPlace State.setCall
  split
  · exact ⟨rfl, rfl, rfl⟩
  · exact ⟨rfl, rfl, rfl⟩
  · dsimp only
    split <;> split <;> exact ⟨rfl, rfl, rfl⟩

theorem LogLawWith.claimPlace {k : Nat} {s : State} (h : LogLawWith k s) (b : BerthId) (l : LaneId) :
    LogLawWith k (s.claimPlace b l).1 := by
  unfold State.claimPlace
  split
  · exact h
  · exact h
  · rename_i c _ hc
    dsimp only
    split <;> exact h.setCall b _ (by simp [hc])

theorem LogLawWith.decidePlace {k : Nat} {s : State} (h : LogLawWith (k + 1) s) (l : LaneId) (e : Evaluation)
    (o : Offer) (hc : (s.lane l).ctx.offers = 0) : LogLawWith k (s.decidePlace l e o) := by
  unfold State.decidePlace
  split
  · exact h.decideOffer l o hc
  · rename_i b _
    have h1 := h.claimPlace b l
    have h2 := (s.claimPlace_keeps b l).1
    split
    · rename_i s1 hs; rw [hs] at h1 h2
      exact h1.decideOffer l o (by rw [State.lane, show s1.lanes = s.lanes from h2]; exact hc)
    · rename_i s1 r hs; rw [hs] at h1 h2
      refine (LogLawWith.releaseUse (LogLawWith.releaseSlot h1) _).decideRefuse l _ _ _ ?_
      show (s1.lanes.get l).ctx.offers = 0
      rw [show s1.lanes = s.lanes from h2]
      exact hc

/-- Checks 9 to 11 at a lane that holds no offer (R120 to R124). -/
theorem LogLawWith.decideClaims {k : Nat} {s : State} (h : LogLawWith k s) (l : LaneId) (e : Evaluation)
    (f : DenyFlags) (hc : (s.lane l).ctx.offers = 0) : LogLawWith k (s.decideClaims l e f) := by
  unfold State.decideClaims
  cases chargeOf e s.taps with
  | error r => exact h.decideRefuse l _ _ _ hc
  | ok v =>
    cases tapClaim s.taps e.token e.base with
    | error r => exact h.decideRefuse l _ _ _ hc
    | ok t =>
      cases hg : s.log.reserveSlot with
      | none => exact ((h.withTaps t).releaseUse e.token.id).decideRefuse l _ _ _ hc
      | some g => exact ((h.reserveSlot hg).withTaps t).decidePlace l e _ hc

theorem LogLawWith.applyPolicy {k : Nat} {s : State} (h : LogLawWith k s) (l : LaneId) (e : Evaluation)
    (hc : (s.lane l).ctx.offers = 0) : LogLawWith k (s.applyPolicy l e) := by
  unfold State.applyPolicy
  split
  · exact h.decideClaims l _ _ hc
  · exact h.decideRefuse l _ _ _ hc

theorem LogLawWith.decideLookup {k : Nat} {s : State} (h : LogLawWith k s) (l : LaneId) (e : Evaluation)
    (o : LookupOutcome) (hc : (s.lane l).ctx.offers = 0) : LogLawWith k (s.decideLookup l e o) := by
  unfold State.decideLookup
  split
  · exact h.decideClaims l _ _ hc
  · exact h.decideClaims l _ _ hc
  · exact h.decideRefuse l _ _ _ hc
  · exact h.applyPolicy l _ hc

end Sys2Proof.Machine
end

