-- ==== Sys2Proof/Laws/Tables.lean ====
section
/-!
SUPPORT. The operations of the recent-tap table, the trip log's sequence numbers, a call's capacities and the calendar:
each keeps its law.
-/
namespace Sys2Proof.Machine

/-! ## The recent-tap table (R131) -/

/-- The law of R131 on a table. -/
def tapsOk (t : List TapEntry) : Prop := t.length ≤ 512 ∧ (t.map (·.tokenId)).Nodup

theorem tapTableLaw_iff (s : State) : TapTableLaw s ↔ tapsOk s.taps := Iff.rfl

/-- A part of a table is a table. -/
theorem tapsOk.sublist {t u : List TapEntry} (h : tapsOk t) (hs : u.Sublist t) : tapsOk u :=
  ⟨Nat.le_trans hs.length_le h.1, (hs.map _).nodup h.2⟩

theorem tapRemove_sublist (t : List TapEntry) (id : TokenId) : (tapRemove t id).Sublist t := List.filter_sublist

theorem tapRemove_not_mem (t : List TapEntry) (id : TokenId) : id ∉ (tapRemove t id).map (·.tokenId) := by
  simp [tapRemove]

theorem tapFind_mem {t : List TapEntry} {id : TokenId} {e : TapEntry} (h : tapFind t id = some e) :
    e ∈ t ∧ e.tokenId = id := by
  unfold tapFind at h
  exact ⟨List.mem_of_find?_eq_some h, by simpa using List.find?_some h⟩

/-- An entry joins the youngest end of a table that lacks its token and has room. -/
theorem tapsOk.snoc {t : List TapEntry} (h : tapsOk t) (e : TapEntry) (hl : t.length < 512)
    (hn : e.tokenId ∉ t.map (·.tokenId)) : tapsOk (t ++ [e]) := by
  refine ⟨by simp; omega, ?_⟩
  rw [List.map_append, List.nodup_append]
  refine ⟨h.2, by simp, ?_⟩
  intro a ha b hb hab
  simp only [List.map_cons, List.map_nil, List.mem_singleton] at hb
  subst hb; subst hab
  exact hn ha

theorem tapRemove_length_lt {t : List TapEntry} {e : TapEntry} (h : e ∈ t) :
    (tapRemove t e.tokenId).length < t.length := by
  refine Nat.lt_of_le_of_ne (tapRemove_sublist t e.tokenId).length_le fun hl => ?_
  have := (tapRemove_sublist t e.tokenId).eq_of_length hl
  have hm : e ∈ tapRemove t e.tokenId := by rw [this]; exact h
  simp [tapRemove] at hm

/-- A touched entry (R131): the table keeps its length and its tokens. -/
theorem tapsOk.touch {t : List TapEntry} (h : tapsOk t) {e f : TapEntry} (he : e ∈ t) (hf : f.tokenId = e.tokenId) :
    tapsOk (tapTouch t f) := by
  unfold tapTouch
  rw [hf]
  refine (h.sublist (tapRemove_sublist t e.tokenId)).snoc f ?_ (hf ▸ tapRemove_not_mem t e.tokenId)
  exact Nat.lt_of_lt_of_le (tapRemove_length_lt he) h.1

theorem tapsOk.release {t : List TapEntry} (h : tapsOk t) (id : TokenId) : tapsOk (tapRelease t id) := by
  unfold tapRelease
  split
  · rename_i e he
    split
    · exact h.sublist (tapRemove_sublist t id)
    · exact h.touch (tapFind_mem he).1 rfl
  · exact h

theorem tapsOk.commit {t : List TapEntry} (h : tapsOk t) (id : TokenId) (a : TableAdmission) (now : Nat) :
    tapsOk (tapCommit t id a now) := by
  unfold tapCommit
  split
  · rename_i e he; exact h.touch (tapFind_mem he).1 rfl
  · exact h

theorem tapsOk.unpin {t : List TapEntry} (h : tapsOk t) (day : Nat) : tapsOk (tapUnpin t day) := by
  refine ⟨by simpa [tapUnpin] using h.1, ?_⟩
  have : (tapUnpin t day).map (·.tokenId) = t.map (·.tokenId) := by
    simp only [tapUnpin, List.map_map]
    refine List.map_congr_left fun e _ => ?_
    simp only [Function.comp]
    split <;> rfl
  rw [this]; exact h.2

theorem tapsOk.restart {t : List TapEntry} (h : tapsOk t) : tapsOk (tapRestart t) := by
  have h1 : tapsOk (t.filter fun e => decide (e.uses ≠ 0)) := h.sublist List.filter_sublist
  refine ⟨by simpa [tapRestart] using h1.1, ?_⟩
  have : (tapRestart t).map (·.tokenId) = (t.filter fun e => decide (e.uses ≠ 0)).map (·.tokenId) := by
    simp [tapRestart, List.map_map, Function.comp_def]
  rw [this]; exact h1.2

theorem tapFind_none {t : List TapEntry} {id : TokenId} (h : tapFind t id = none) : id ∉ t.map (·.tokenId) := by
  unfold tapFind at h
  intro hm
  obtain ⟨e, he, hid⟩ := List.mem_map.mp hm
  exact List.find?_eq_none.mp h e he (by simpa using hid)

/-- A granted claim (R134, R135). -/
theorem tapsOk.claim {t u : List TapEntry} (h : tapsOk t) {token : TokenRecord} {base : Nat}
    (hc : tapClaim t token base = .ok u) : tapsOk u := by
  unfold tapClaim at hc
  split at hc
  · rename_i e he
    split at hc
    · cases hc
    · split at hc
      · cases hc
      · cases hc; exact h.touch (tapFind_mem he).1 rfl
  · rename_i he
    split at hc
    · rename_i hl; cases hc; exact h.snoc _ hl (tapFind_none he)
    · split at hc
      · rename_i _ ha
        cases hc
        have hs : (t.eraseP TapEntry.evictable).Sublist t := List.eraseP_sublist
        refine (h.sublist hs).snoc _ ?_ fun hm => tapFind_none he ((hs.map _).subset hm)
        obtain ⟨e, he1, he2⟩ := List.any_eq_true.mp ha
        have := List.length_eraseP_of_mem he1 he2
        have := List.length_pos_of_mem he1
        have := h.1
        omega
      · cases hc

/-! ## Sequence numbers (R188) -/

/-- Joining a record with the next sequence number goes on the run. -/
theorem seqRun.snoc {rs : List Record} {n : BitVec 16} (h : seqRun rs n) (c : Content) :
    seqRun (rs ++ [{ seq := n, content := c }]) (n + 1) := by
  induction rs with
  | nil => exact ⟨rfl, trivial⟩
  | cons r rest ih =>
    refine ⟨?_, ih h.2⟩
    have hr := h.1
    show r.seq + BitVec.ofNat 16 ((rest ++ [({ seq := n, content := c } : Record)]).length + 1) = n + 1
    rw [← hr, List.length_append, List.length_singleton, BitVec.add_assoc, BitVec.ofNat_add (rest.length + 1) 1]
    rfl

/-- The records left by a drop still run (R197). -/
theorem seqRun.drop {rs : List Record} {n : BitVec 16} (h : seqRun rs n) (k : Nat) : seqRun (rs.drop k) n := by
  induction k generalizing rs with
  | zero => exact h
  | succ k ih =>
    cases rs with
    | nil => exact trivial
    | cons r rest => exact ih h.2

theorem TripLog.append_seqRun {g : TripLog} (h : seqRun g.records g.nextSeq) (c : Content) :
    seqRun (g.append c).records (g.append c).nextSeq := h.snoc c

theorem TripLog.appendUnreserved_seqRun {g g' : TripLog} (h : seqRun g.records g.nextSeq) {c : Content}
    (hg : g.appendUnreserved c = some g') : seqRun g'.records g'.nextSeq := by
  unfold TripLog.appendUnreserved at hg
  split at hg
  · cases hg; exact h.snoc c
  · cases hg

theorem TripLog.reserveSlot_seqRun {g g' : TripLog} (h : seqRun g.records g.nextSeq)
    (hg : g.reserveSlot = some g') : seqRun g'.records g'.nextSeq := by
  unfold TripLog.reserveSlot at hg
  split at hg
  · cases hg; exact h
  · cases hg

/-! ## Capacities (R3) -/

theorem within_iff (lo hi n : Nat) : within lo hi n = true ↔ lo ≤ n ∧ n ≤ hi := by simp [within]

theorem optWithin_getD {lo hi n : Nat} {o : Option Nat} (h : optWithin lo hi o = true) (hn : lo ≤ n) :
    lo ≤ o.getD n := by
  cases o with
  | none => exact hn
  | some v => exact ((within_iff lo hi v).mp h).1

/-- Taking a message leaves the capacities. -/
theorem Call.takeHolding_caps (c : Call) (m : Holding) :
    (c.takeHolding m).effectiveCap = c.effectiveCap ∧ (c.takeHolding m).declaredCap = c.declaredCap := by
  cases m <;> exact ⟨rfl, rfl⟩

theorem Call.takeAll_caps (ms : List (LaneId × Holding)) (c : Call) :
    (ms.foldl (fun d m => d.takeHolding m.2) c).effectiveCap = c.effectiveCap
    ∧ (ms.foldl (fun d m => d.takeHolding m.2) c).declaredCap = c.declaredCap := by
  induction ms generalizing c with
  | nil => exact ⟨rfl, rfl⟩
  | cons m rest ih =>
    have h1 := ih (c.takeHolding m.2)
    have h2 := c.takeHolding_caps m.2
    exact ⟨h1.1.trans h2.1, h1.2.trans h2.2⟩

theorem Call.takeWhere_caps (p : LaneId → Bool) (c : Call) :
    (c.takeWhere p).effectiveCap = c.effectiveCap ∧ (c.takeWhere p).declaredCap = c.declaredCap :=
  Call.takeAll_caps _ c

/-- The call an accepted ARRIVE opens has capacities in their ranges (R9, R10). -/
theorem openedCall_capacityLaw (a : ArriveArgs) (plan : Option Plan) (arrival : Option CalTime) (now : Nat)
    (ha : arrivalValid a = true) (hp : ∀ p, plan = some p → planLaw p) :
    (openedCall a plan arrival now).capacityLaw := by
  have hv : 1 ≤ a.capacity ∧ a.capacity ≤ 900 := by
    unfold arrivalValid at ha
    simp only [Bool.and_eq_true, within_iff] at ha
    exact ha.2
  have base : (Call.opened a arrival now).judgeOver.capacityLaw := ⟨hv.1, Nat.le_refl _, hv.2⟩
  unfold openedCall
  split
  · rename_i p
    split
    · have hw := hp p rfl
      unfold planLaw planValid at hw
      simp only [Bool.and_eq_true] at hw
      have hc := optWithin_getD hw.1.1.2 hv.1
      show 1 ≤ min a.capacity (p.cap.getD a.capacity) ∧ min a.capacity (p.cap.getD a.capacity) ≤ a.capacity
        ∧ a.capacity ≤ 900
      exact ⟨Nat.le_min.mpr ⟨hv.1, hc⟩, Nat.min_le_left _ _, hv.2⟩
    · exact base
  · exact base

/-! ## Settings and calendar -/

theorem landingOf_valid {a : LandingArgs} {x : LandingSettings} (h : landingOf a = some x) : x.valid = true := by
  unfold landingOf at h
  split at h
  · split at h
    · rename_i hv; cases h; exact hv
    · cases h
  · cases h

/-- The lanes' settings of a valid image lie in their ranges (R183). -/
theorem imageLane_valid {bs : List Byte} {k : Nat} {v : Role × LaneSettings} (h : imageLane bs k = some v) :
    laneSettingsValid v.2 = true := by
  unfold imageLane at h
  dsimp only at h
  split at h
  · split at h
    · rename_i hv; cases h; exact hv
    · cases h
  · cases h

theorem lanesSome_get {α : Type} {p : PerLane (Option α)} {q : PerLane α} (h : lanesSome p = some q) (l : LaneId) :
    p.get l = some (q.get l) := by
  unfold lanesSome at h
  split at h
  · cases h
    cases l <;> assumption
  · cases h

theorem imageSettings_valid {pages : List Page} {v : SettingsCopy} (h : imageSettings pages = some v) :
    (∀ l, laneSettingsValid (v.lanes.get l).2 = true) ∧ v.landing.valid = true := by
  unfold imageSettings at h
  dsimp only at h
  split at h
  · rename_i lanes landing _ hl hg
    cases h
    refine ⟨fun l => ?_, landingOf_valid hg⟩
    have hl' := lanesSome_get hl l
    cases l <;> exact imageLane_valid hl'
  · cases h

theorem CalTime.next_valid {t : CalTime} (h : t.valid) : t.next.valid := by
  obtain ⟨h1, h2⟩ := h
  unfold CalTime.next
  split
  · exact ⟨h1, h2⟩
  · rename_i hn
    split
    · rename_i hs; exact ⟨h1, hs⟩
    · rename_i hs
      refine ⟨?_, Nat.zero_le _⟩
      show t.day + 1 ≤ 65535
      have : t.second = 86399 := by omega
      have : t.day ≠ 65535 := fun e => hn ⟨e, this⟩
      omega

end Sys2Proof.Machine
end

