-- ==== Sys2Proof/Tests/Slice0.lean ====
section
/-!
SUPPORT. The model's own tests: the checks of WellFormed refuse ill-formed terms, a few steps and values of the spec's
examples, and for every statement with hypotheses a state and operands that meet them, clause by clause.
-/
namespace Sys2Proof.Tests
open Sys2Proof.Machine

/-! ## Ill-formed terms -/

/-- A page of 256 zero bytes. -/
def page0 : Page := zeros 256

theorem test_tap_at_the_longest_frame : Instr.wf (.tap .l0 (zeros 65532)) = true := by
  show decide ((List.replicate 65532 (0 : Byte)).length ≤ 65532) = _
  rw [List.length_replicate]; decide
theorem test_tap_beyond_the_longest_frame_refused : Instr.wf (.tap .l0 (zeros 65533)) = false := by
  show decide ((List.replicate 65533 (0 : Byte)).length ≤ 65532) = _
  rw [List.length_replicate]; decide
theorem test_short_first_read_refused :
    Instr.wf (.pageReadEnd { first := [], second := page0, third := page0 }) = false := by decide +kernel
theorem test_short_second_read_refused :
    Instr.wf (.pageReadEnd { first := page0, second := [], third := page0 }) = false := by decide +kernel
theorem test_long_third_read_refused :
    Instr.wf (.pageReadEnd { first := page0, second := page0, third := zeros 257 }) = false := by decide +kernel
theorem test_whole_reads_taken :
    Instr.wf (.pageReadEnd { first := page0, second := page0, third := page0 }) = true := by decide +kernel

/-! ## Values of the spec's examples -/

/-- The example of R146. -/
theorem test_bucket_of_the_example : bucketOf 0x123456789ABCDE#56 = 90 := by decide
/-- The check of R203 over the nine ASCII digits, the generator's published value. -/
theorem test_check_value : crc16 [0x31, 0x32, 0x33, 0x34, 0x35, 0x36, 0x37, 0x38, 0x39] = 0x29B1#16 := by
  decide +kernel
theorem test_no_word_spells_a_command : decodeTableWord 16 0 = none := rfl
set_option maxRecDepth 20000 in
/-- An erased page needs no check; a page of zeros fails its check three times (R173). -/
theorem test_reads_judged : judgeReads { first := blanks 256, second := page0, third := page0 } = (.erased, 0)
    ∧ judgeReads { first := page0, second := page0, third := page0 } = (.unreadable, 2) := by
  decide +kernel

/-! ## Sample values -/

/-- A call in ALIGHTING, its silence deadline reached. -/
def call0 : Call :=
  { stage := .alighting, suspended := false, vesselId := 1, line := 2, declaredCap := 900, effectiveCap := 1,
    arrivalOnBoard := 0, onBoard := 0, reserved := 0, boarded := 0, alighted := 0, unmatched := 0, tailgates := 0,
    arrival := none, isOver := false, grace := none, closingDeadline := none, silenceDeadline := some 0, inFlight := [] }

/-- The part after reset with a call at berth A. -/
def atA (c : Call) : State := State.reset.setBerth .berthA { call := some c, plan := none, reply := none }

/-- The lane after reset. -/
def lane0 : Lane := Lane.initial .clear

/-- The part after reset with another lane L0. -/
def withL0 (x : Lane) : State := State.reset.setLane .l0 x

/-- A CODE entry that waits for its passage, its deadline reached. -/
def entry0 : Entry :=
  { tokenId := 7, medium := .code, phase := .awaitPassage, confirmation := .notNeeded, fareClass := .pass, charge := 0,
    page := 0, index := 0, berth := none, line := none, tapTime := { day := 0, second := 0 }, deadline := 0,
    flags := .clear }

/-- A BOARDING call, one passenger short of full or full. -/
def boarding (n : Nat) : Call := { call0 with stage := .boarding, onBoard := n }

/-- A CARD entry that waits for its write. -/
def entryW : Entry := { entry0 with medium := .card, phase := .awaitWrite, confirmation := .unconfirmed }

/-- A token record: token 7, a CARD of product 0, valid from day 0 to 65,535. -/
def tokenFields : List Byte := [0, 0, 0, 0, 0, 0, 7, 1, 0, 0, 0, 0xFF, 0xFF, 0, 0, 0, 1] ++ zeros 11

/-- The record `tokenFields` carries. -/
def token0 : TokenRecord :=
  { id := 7, medium := .card, productCode := 0, validFrom := 0, validUntil := 65535, rides := 0, storedValue := 0,
    usesAllowed := 1, last := none }

theorem test_token_record_read : decodeToken tokenFields = some token0 := by decide
theorem test_token_id_zero_refused : decodeToken ([0, 0, 0, 0, 0, 0, 0, 1] ++ zeros 20) = none := by decide
theorem test_token_of_a_third_medium_refused : decodeToken ([0, 0, 0, 0, 0, 0, 7, 3] ++ zeros 20) = none := by decide

/-- The evaluation of `token0` at an ENTRY lane. -/
def eval0 : Evaluation :=
  { token := token0, time := { day := 0, second := 0 }, base := 0, roleClass := .entry, line := 0,
    product := { page := 0, index := 0, kind := .pass, window := 0 } }

/-- The same at a line 1, with a transfer window of one minute. -/
def evalWindow : Evaluation :=
  { eval0 with line := 1, product := { page := 0, index := 0, kind := .rides, window := 1 } }

/-- The same with another product and token record. -/
def evalOf (kind : TerminalKind) (token : TokenRecord) : Evaluation :=
  { evalWindow with token := token, product := { page := 0, index := 0, kind := kind, window := 1 } }

/-- A CARD's last admission at line 2, at the calendar's first second. -/
def cardLast0 : CardAdmission := { time := { day := 0, second := 0 }, landing := 1, line := 2, roleClass := .entry }

/-- A role mask of ENTRY alone. -/
def onEntry : RoleMask := { entry := true, board := false }

/-- A last admission at an ENTRY lane, at the calendar's first second. -/
def last0 : TableAdmission :=
  { time := { day := 0, second := 0 }, lane := .l0, berth := none, line := 2, roleClass := .entry }

/-- An entry of the recent-tap table with a last admission. -/
def tapLast : TapEntry := { newTapEntry token0 with held := false, uses := 1, last := some last0 }

/-- An offer of it. -/
def offer0 : Offer := eval0.offer .clear 0 .pass 1

/-- A REFUSE of it. -/
def refused0 : Refused := (eval0.progress .clear).refused .denied (some 1)

/-- The part with L0 an ENTRY lane, the clock set and a PASS for both roles at page 0, index 0. -/
def serving (x : Lane) : State :=
  (((withL0 { x with role := .entry }).withClock { timeBase := 0, calendar := some { day := 0, second := 0 }, phase := 0,
                                                     secondsDue := 0 }).withFare [.terminal .pass { entry := true, board := true } 0])

theorem test_judged_to_pass : (serving lane0).judgeTap .l0 token0 = .pass eval0 := by decide

/-- A list flash port with an operation and a job. -/
def portOf (op : Option FlashOp) (job : Option Job) : FlashPort := { FlashPort.initial with op := op, job := job }

/-- The part with another list flash port. -/
def withPort0 (op : Option FlashOp) (job : Option Job) : State := State.reset.withPort (portOf op job)

/-- A sector erase held, issued at 0. -/
def held0 : HeldErase := { sector := 319, suspended := false, issued := 0 }

/-- A lookup of token 7 at L0, not yet reading. -/
def lookup0 : Lookup := newLookup .l0 7

/-- The part whose free port has granted the next read to the lookup at L0. -/
def grantedLookup0 (captured : Option Bank) : State :=
  ((State.reset.withDeny { DenyUnit.initial with queue := [{ lookup0 with captured := captured }] }).withPort
    { FlashPort.initial with due := some (.lookup false) })

/-- The part at a time of the time base. -/
def atTime (s : State) (n : Nat) : State := 
  s.withClock { timeBase := n, calendar := s.clock.calendar, phase := 0, secondsDue := 0 }

/-! ## One state that meets every law -/

/-- L0 boards at berth A, which is BOARDING; L0 holds a place for token 7 in an entry; one record stands in the log. -/
def busy : State :=
  { ((atA { call0 with stage := .boarding, reserved := 1 }).setLane .l0 { lane0 with
        role := .boardA, entries := [{ entry0 with berth := some .berthA, line := some 2 }] }) with
    taps := [newTapEntry token0]
    log := { records := [{ seq := 65535, content := .restart none .powerOn }], reserve := 2, nextSeq := 0 } }

theorem busy_log : LogLaw busy ∧ SequenceLaw busy := by
  refine ⟨?_, ?_⟩
  · unfold LogLaw; decide
  · exact ⟨by decide, trivial⟩
theorem busy_lists : LaneListLaw busy := by
  intro l; cases l <;> (unfold Lane.listLaw; decide)
theorem busy_taps : TapTableLaw busy := by unfold TapTableLaw; decide
theorem busy_places : PlaceLaw busy := by
  refine ⟨fun b => ?_, fun l => ?_, fun stage h => ?_⟩
  · cases b
    · exact ⟨by decide, by decide⟩
    · show busy.placesHeld .berthB = 0; decide
  · cases l <;> decide
  · cases h
theorem busy_bound : PlaceBoundLaw busy := by
  refine ⟨busy_lists, fun b c l h => ?_⟩
  cases b
  · cases h; cases l <;> decide
  · cases h
theorem busy_lookups : LookupLaw busy := by unfold LookupLaw; decide
theorem busy_settings : SettingsLaw busy := by
  refine ⟨fun l => ?_, by decide⟩
  cases l <;> decide
theorem busy_calendar : CalendarLaw busy := ⟨by decide, rfl, rfl⟩
theorem busy_capacities : CapacityLaw busy := by
  intro b
  refine ⟨fun c h => ?_, fun p h => ?_⟩ <;> cases b <;> cases h
  unfold Call.capacityLaw; decide
theorem busy_bank : ActiveBankLaw busy := by
  refine ⟨fun o h => ?_, fun h hh => ?_, fun o h => ?_, fun j h => ?_, fun b h => ?_, by decide, fun st h => ?_⟩
  · cases h
  · cases hh
  · cases h
  · cases h
  · cases h
  · cases h

/-! ## What meets the hypotheses of the statements, clause by clause -/

theorem witness_StepTakesTheFrontCommand : (State.reset.withPending [.emptyFrame]).pending = [.emptyFrame] := rfl

/-- The time base at its last value but one, with a calendar and a phase. -/
def lastBut (c : Option CalTime) (run : Run) (phase : Nat := 0) : State :=
  (State.reset.withClock { timeBase := 2 ^ 48 - 2, calendar := c, phase := phase, secondsDue := 0 }).withKeep
    { State.reset.keep with run := run }

theorem witness_EmptyQueueStepIsOneMillisecond :
    (lastBut (some { day := 65535, second := 86398 }) .running).pending = []
    ∧ (lastBut none .running).now + 1 < 2 ^ 48
    ∧ (lastBut none (.held .resetLine)).keep.run = .held .resetLine
    ∧ (lastBut (some { day := 65535, second := 86399 }) .running).clock.calendar = some { day := 65535, second := 86399 }
    ∧ ({ day := 65535, second := 86398 } : CalTime) ≠ { day := 65535, second := 86399 }
    ∧ (lastBut none .running).clock.calendar = none
    ∧ (lastBut (some { day := 0, second := 0 }) .running 998).clock.phase < 999
    ∧ 999 ≤ (lastBut (some { day := 0, second := 0 }) .running 999).clock.phase
    ∧ (lastBut none (.warmRestart .record)).keep.run = .warmRestart .record ∧ (lastBut none .running).asked = []
    ∧ (lastBut none (.coldStart (.flashReset 1999))).keep.run = .coldStart (.flashReset 1999)
    ∧ (∀ w, ColdStage.imageHeader ≠ .flashReset w) :=
  ⟨rfl, by decide, rfl, rfl, by decide, rfl, by decide, by decide, rfl, rfl, rfl, fun _ h => nomatch h⟩

/-- A state that meets every law, and a step from it. -/
theorem witness_EveryStepKeeps : LogLaw busy ∧ SequenceLaw busy ∧ LaneListLaw busy ∧ TapTableLaw busy ∧ PlaceLaw busy
    ∧ PlaceBoundLaw busy ∧ LookupLaw busy ∧ SettingsLaw busy ∧ CalendarLaw busy ∧ CapacityLaw busy ∧ ActiveBankLaw busy
    ∧ ∃ t, step busy = .next t :=
  ⟨busy_log.1, busy_log.2, busy_lists, busy_taps, busy_places, busy_bound, busy_lookups, busy_settings, busy_calendar,
    busy_capacities, busy_bank, _, rfl⟩

/-- The station port with "log refusals" on. -/
def logging : Station := { State.reset.station with landing := { LandingSettings.default with logRefusals := true } }

/-- The part with another log. -/
def withLog0 (records : List Record) (reserve : Nat) : State :=
  State.reset.withLog { records := records, reserve := reserve, nextSeq := 1 }

/-- A record. -/
def record0 : Record := { seq := 0, content := .restart none .powerOn }

theorem witness_TripLogTakesItsRequests :
    (withLog0 [record0] 1022).log.reserve < 1024 - (withLog0 [record0] 1022).log.records.length
    ∧ ¬ (withLog0 [record0] 1023).log.reserve < 1024 - (withLog0 [record0] 1023).log.records.length
    ∧ (withLog0 [record0] 0).keep.run = .running
    ∧ ¬ (1 ≤ 0 ∧ 0 ≤ 1024 ∧ 0 ≤ (withLog0 [record0] 0).log.records.length)
    ∧ ¬ (1 ≤ 2 ∧ 2 ≤ 1024 ∧ 2 ≤ (withLog0 [record0] 0).log.records.length)
    ∧ (1 ≤ 1 ∧ 1 ≤ 1024 ∧ 1 ≤ (withLog0 [record0] 0).log.records.length)
    ∧ (withLog0 [record0] 0).log.records.head?.map (·.seq) ≠ some 1
    ∧ (withLog0 [record0] 0).log.records.head?.map (·.seq) = some 0 := by decide

theorem witness_BucketIndexFoldsFiveSlices : ({ DenyUnit.initial with noList := false } : DenyUnit).noList = false := rfl

theorem witness_ElapsedTimeIsZeroForTheFuture :
    (0 < 1 ∨ (0 = 1 ∧ 86399 < 0)) ∧ (1 < 1 ∨ (1 = 1 ∧ 0 < 1)) ∧ ¬ (1 < 1 ∨ (1 = 1 ∧ 5 < 5))
    ∧ (newTapEntry token0).last = none ∧ tapLast.last = some last0
    ∧ (∀ n ∈ [0, 59], recentAdmission tapLast .entry { day := 0, second := n } 60 = true)
    ∧ recentAdmission tapLast .entry { day := 0, second := 60 } 60 = false
    ∧ eval0.product.window = 0 ∧ transferFrom evalWindow 2 { day := 0, second := 0 } = true
    ∧ transferFrom { evalWindow with time := { day := 0, second := 60 } } 2 { day := 0, second := 0 } = false := by decide

theorem witness_RedirectFollowsItsBand :
    selectEntry 1 0 = some (0, 0) ∧ fareAt [.redirect 5 4 0 0] 0 0 = .redirect 5 4 0 0 ∧ 4 < 5 ∧ 5 ≤ 5
    ∧ selectEntry 1 token0.productCode = some (0, 0) ∧ selectEntry 0 32 = none ∧ selectEntry 15 63 = some (15, 31)
    ∧ fareAt [] 0 0 = .empty ∧ resolveFrom [] 1 0 5 0 = .error .unknownProduct
    ∧ (∀ kind ∈ [TerminalKind.pass, .rides, .value 5, .ticket], resolveFrom [.terminal kind onEntry 0] 1 0 5 0
        = .ok (0, 0, kind, onEntry, 0))
    ∧ token0.medium = .card ∧ ({ token0 with medium := .code } : TokenRecord).medium = .code
    ∧ onEntry.entry = true ∧ onEntry.board = false :=
  ⟨by decide, by decide, by decide, by decide, by decide, by decide, by decide, by decide, rfl, fun _ _ => rfl, rfl, rfl,
    rfl, rfl⟩

theorem witness_LaneFramesWithoutEffectOnlyReply : State.reset.keep.run = .running
    ∧ (State.reset.lane .l7).takeHeld = false ∧ decodeToken (zeros 27) = none := by decide

set_option maxRecDepth 20000 in
theorem witness_TokenRecordNeedsAnIdAndAMedium : decodeToken tokenFields = some token0
    ∧ (∃ t, decodeToken ([0, 0, 0, 0, 0, 0, 7, 2] ++ zeros 20) = some t ∧ t.medium = .code)
    ∧ (∃ t a, decodeToken ([0, 0, 0, 0, 0, 0, 7, 1] ++ zeros 9 ++ [1, 0, 0, 1, 0x51, 0x7F, 0xFF, 0xFF, 0xFF, 1, 0]) = some t
        ∧ t.last = some a ∧ a.time.second = 86399) :=
  ⟨by decide, ⟨_, rfl, by decide⟩, ⟨_, _, rfl, rfl, by decide⟩⟩

theorem witness_TapStartsAndEndsWhatTheContextHeld : (withL0 { lane0 with ctx := .waiting eval0 0 }).keep.run = .running
    ∧ ((withL0 { lane0 with ctx := .offer offer0 }).lane .l0).takeHeld = false
    ∧ decodeToken tokenFields = some token0 := by decide

theorem witness_InstantChecksRefuseInOrder :
    (State.reset.lane .l0).role = .off
    ∧ ((serving { lane0 with cond := { lane0.cond with blocked := true } }).lane .l0).cond.blocked = true
    ∧ (2 ≤ ((serving { lane0 with entries := [entry0, entry0] }).lane .l0).entries.length)
    ∧ (∃ e ∈ ((serving { lane0 with entries := [entryW] }).lane .l0).entries, e.phase = .awaitWrite)
    ∧ ((withL0 { lane0 with role := .entry }).clock.calendar = none
        ∧ ((withL0 { lane0 with role := .entry }).lane .l0).entries.length ≤ 1)
    ∧ (∀ c ∈ [call0, { call0 with suspended := true }, { call0 with stage := .closing },
          { call0 with stage := .handover }],
        ((atA c).setLane .l0 { lane0 with role := .boardA }).call .berthA = some c)
    ∧ ((State.reset.setLane .l0 { lane0 with role := .boardA }).lane .l0).role.boards = some .berthA
    ∧ State.reset.call .berthA = none
    ∧ ((serving lane0).clock.calendar = some { day := 0, second := 0 } ∧ ((serving lane0).lane .l0).role = .entry)
    ∧ (boarding 0).stage = .boarding
    ∧ 0 < ({ token0 with validFrom := 1 } : TokenRecord).validFrom ∧ token0.validUntil < 65536
    ∧ (token0.validFrom ≤ 65535 ∧ 65535 ≤ token0.validUntil)
    ∧ tapFind [] token0.id = none ∧ tapFind [tapLast] token0.id = some tapLast ∧ tapLast.held = false
    ∧ (newTapEntry token0).held = true
    ∧ recentAdmission tapLast .entry { day := 0, second := 0 } 60 = true
    ∧ recentAdmission tapLast .board { day := 0, second := 0 } 60 = false
    ∧ ({ token0 with medium := .code } : TokenRecord).usesAllowed ≤ tapLast.uses
    ∧ tapLast.uses < ({ token0 with usesAllowed := 2 } : TokenRecord).usesAllowed := by decide

theorem witness_InstantChecks_product : resolveProduct [] token0 .entry 0 0 = .error .unknownProduct
    ∧ resolveProduct (serving lane0).fare token0 .entry 0 0 = .ok eval0.product := ⟨rfl, rfl⟩

theorem witness_TapRefusedAtAnInstantCheck : (∃ p, State.reset.judgeTap .l0 token0 = .refuse p .notServing)
    ∧ (State.reset.lane .l0).ctx = .free ∧ State.reset.station.landing.logRefusals = false
    ∧ (∃ p, (State.reset.withStation { State.reset.station with
        landing := { LandingSettings.default with logRefusals := true } }).judgeTap .l0 token0 = .refuse p .notServing) :=
  ⟨⟨_, rfl⟩, rfl, rfl, ⟨_, rfl⟩⟩

/-- The serving part with a list whose filter is all ones. -/
def listed (x : Lane) : State := (serving x).withDeny { DenyUnit.initial with noList := false }

theorem witness_TapWithASetBitWaitsForALookup : (listed lane0).judgeTap .l0 token0 = .pass eval0
    ∧ (listed lane0).deny.filterTest token0.id = .bitSet ∧ (listed lane0).keep.run = .running
    ∧ ((listed lane0).lane .l0).ctx = .free := by decide +kernel

theorem witness_TapAdmittedAtOnceOnAnEntryLane : (serving lane0).judgeTap .l0 token0 = .pass eval0
    ∧ (serving lane0).deny.filterTest token0.id = .noList ∧ (serving lane0).station.landing.failPolicy = .opened
    ∧ ((listed lane0).withDeny { (listed lane0).deny with activeFilter := 0 }).deny.filterTest token0.id = .bitClear
    ∧ chargeOf eval0 [] = .ok (0, .pass) ∧ tapClaim [] token0 0 = .ok [newTapEntry token0]
    ∧ (serving lane0).log.reserve < 1024 - (serving lane0).log.records.length
    ∧ eval0.product.kind = .pass ∧ eval0.token.medium = .card
    ∧ isTransfer { evalWindow with token := { token0 with last := some cardLast0 } } [] = true
    ∧ isTransfer evalWindow [] = false ∧ evalWindow.token.rides = 0
    ∧ chargeOf { evalWindow with token := { token0 with rides := 1 } } [] = .ok (1, .fare)
    ∧ chargeOf (evalOf (.value 5) { token0 with storedValue := 5 }) [] = .ok (5, .fare)
    ∧ chargeOf (evalOf (.value 5) { token0 with storedValue := 4 }) [] = .error .lowValue
    ∧ isTransfer (evalOf .ticket { token0 with medium := .code }) [tapLast] = true :=
  ⟨by decide, rfl, rfl, by decide +kernel, rfl, rfl, by decide, rfl, rfl, by decide, rfl, rfl, rfl, rfl, rfl, by decide⟩

/-- The serving part under fail policy CLOSED, with "log refusals" as given. -/
def closedPolicy (logRefusals : Bool) : State :=
  (serving lane0).withStation { (serving lane0).station with
    landing := { (serving lane0).station.landing with failPolicy := .closed, logRefusals := logRefusals } }

theorem witness_TapAdmittedAtOnce_policy : (closedPolicy true).judgeTap .l0 token0 = .pass eval0
    ∧ (closedPolicy false).judgeTap .l0 token0 = .pass eval0
    ∧ (closedPolicy true).deny.filterTest token0.id = .noList
    ∧ (closedPolicy true).station.landing.failPolicy = .closed
    ∧ ((closedPolicy true).lane .l0).ctx = .free ∧ ((closedPolicy true).lane .l0).takeHeld = false
    ∧ ((listed lane0).withDeny { (listed lane0).deny with activeFilter := 0 }).judgeTap .l0 token0 = .pass eval0 := by
  decide +kernel

theorem witness_BoardingDecisionClaimsAPlaceOrGivesAllBack :
    Role.boards .boardA = some .berthA
    ∧ ((boarding 0).takeWhere fun k => decide (k = .l0)).onBoard + ((boarding 0).takeWhere fun k => decide (k = .l0)).reserved
        < ((boarding 0).takeWhere fun k => decide (k = .l0)).effectiveCap
    ∧ ((boarding 1).takeWhere fun k => decide (k = .l0)).effectiveCap
        ≤ ((boarding 1).takeWhere fun k => decide (k = .l0)).onBoard
          + ((boarding 1).takeWhere fun k => decide (k = .l0)).reserved
    ∧ (atA (boarding 0)).call .berthA = some (boarding 0) ∧ (boarding 0).suspended = false
    ∧ (boarding 0).stage = .boarding ∧ chargeOf eval0 [] = .ok (0, .pass)
    ∧ tapClaim [] token0 0 = .ok [newTapEntry token0] ∧ (atA (boarding 0)).log.reserve < 1024
    ∧ (atA (boarding 0)).station.landing.logRefusals = false
    ∧ (State.reset.withStation logging).station.landing.logRefusals = true
    ∧ chargeOf evalWindow [] = .error .noRides ∧ tapClaim [newTapEntry token0] token0 0 = .error .passback
    ∧ ¬ (withLog0 [record0] 1023).log.reserve < 1024 - (withLog0 [record0] 1023).log.records.length
    ∧ State.reset.call .berthA = none
    ∧ (∀ c ∈ [call0, { call0 with suspended := true }, { call0 with stage := .closing },
          { call0 with stage := .handover }], (atA c).call .berthA = some c) :=
  ⟨rfl, by decide, by decide, rfl, rfl, rfl, rfl, rfl, by decide, rfl, rfl, rfl, rfl, by decide, rfl, by decide⟩

theorem witness_TakeReturnsTheVerdictOrIsHeld :
    ((withL0 { lane0 with ctx := .offer offer0 }).lane .l0).ctx = .offer offer0
    ∧ ((withL0 { lane0 with ctx := .refused refused0 }).lane .l0).ctx = .refused refused0
    ∧ ((withL0 { lane0 with ctx := .waiting eval0 0 }).lane .l0).ctx = .waiting eval0 0
    ∧ (State.reset.lane .l0).ctx = .free ∧ offer0.medium = .card
    ∧ ({ offer0 with medium := .code } : Offer).medium = .code := by decide

theorem witness_WriteReportOrDeadlineMovesTheEntry :
    ((withL0 { lane0 with entries := [entry0, entryW] }).lane .l0).entries = [entry0] ++ entryW :: []
    ∧ (∀ x ∈ [entry0], x.phase = .awaitPassage) ∧ entryW.phase = .awaitWrite
    ∧ entryW.deadline ≤ (withL0 { lane0 with entries := [entry0, entryW] }).now
    ∧ (∀ x ∈ ((withL0 { lane0 with entries := [entry0, entry0] }).lane .l0).entries, x.phase = .awaitPassage) := by
  decide

theorem witness_WriteFailureOrPassageDeadlineVoids :
    ((withL0 { lane0 with entries := [entryW] }).lane .l0).entries = [] ++ entryW :: []
    ∧ ((withL0 { lane0 with entries := [entry0, entry0] }).lane .l0).entries = [entry0] ++ entry0 :: []
    ∧ (WhichEntry.younger = .older → [entry0] = []) ∧ (WhichEntry.younger = .younger → [entry0].length = 1)
    ∧ entry0.phase = .awaitPassage ∧ entry0.deadline ≤ 0 := by decide

theorem witness_TakeDeadlineDropsTheOffer :
    ((withL0 { lane0 with ctx := .offer offer0, takeDeadline := some 0 }).lane .l0).takeDeadline = some 0
    ∧ 0 ≤ (withL0 { lane0 with ctx := .offer offer0, takeDeadline := some 0 }).now := by decide

theorem witness_VerdictDeadlineAppliesTheFailPolicy :
    ((withL0 { lane0 with ctx := .waiting eval0 0, takeHeld := true }).lane .l0).ctx = .waiting eval0 0
    ∧ ((withL0 { lane0 with ctx := .waiting eval0 0, takeHeld := true }).lane .l0).takeHeld = true
    ∧ ((withL0 { lane0 with ctx := .waiting eval0 0 }).lane .l0).takeHeld = false
    ∧ ((withL0 lane0).withStation { State.reset.station with
        landing := { LandingSettings.default with failPolicy := .closed } }).station.landing.failPolicy = .closed
    ∧ (withL0 lane0).station.landing.failPolicy = .opened
    ∧ (∀ q ∈ State.reset.deny.queue, q.lane ≠ .l0)
    ∧ (∃ q ∈ [{ lookup0 with reading := true }], q.lane = .l0 ∧ q.reading = true)
    ∧ (withPort0 (some (.pageRead .lookup 5)) none).port.op = some (.pageRead .lookup 5)
    ∧ (∀ q ∈ [lookup0], q.lane = .l0 → q.reading = false) ∧ State.reset.port.due = none
    ∧ lookup0.lane = .l0 ∧ (grantedLookup0 none).port.due = some (.lookup false) ∧ lookup0.captured = none
    ∧ (grantedLookup0 (some .bankA)).deny.queue = [{ lookup0 with captured := some .bankA }] := by decide

/-- The calls the dock statements speak of, each at berth A of a part that runs. -/
theorem witness_dock_messages :
    State.reset.keep.run = .running ∧ State.reset.call .berthA = none
    ∧ (∀ c ∈ [call0, boarding 0, { call0 with stage := .closing, reserved := 1 }, { call0 with stage := .handover },
          { call0 with suspended := true }, { boarding 0 with reserved := 1 }],
        (atA c).keep.run = .running ∧ (atA c).call .berthA = some c) := by decide

theorem witness_ArriveAtVacantOpensTheCall :
    (1 ≤ 65535 ∧ 65535 ≤ 65535 ∧ 1 ≤ 15 ∧ 15 ≤ 15 ∧ 1 ≤ 900 ∧ 900 ≤ 900)
    ∧ ¬ (1 ≤ 0 ∧ 0 ≤ 65535) ∧ ¬ (1 ≤ 16 ∧ 16 ≤ 15) ∧ ¬ (1 ≤ 901 ∧ 901 ≤ 900)
    ∧ State.reset.log.reserve < 1024 - State.reset.log.records.length
    ∧ ¬ (withLog0 [] 1024).log.reserve < 1024 - (withLog0 [] 1024).log.records.length
    ∧ (State.reset.berth .berthA).plan = none
    ∧ (∃ p, ((State.reset.setPlan .berthA (some { vesselId := some 2, cap := none, line := none, grace := none })).berth
        .berthA).plan = some p ∧ p.vesselId = some 2) := by
  refine ⟨by decide, by decide, by decide, by decide, by decide, by decide, rfl, _, rfl, rfl⟩

/-- A suspended call at berth A, with its place of the log. -/
def suspendedA : State :=
  (atA { call0 with suspended := true, stage := .closing, closingDeadline := some 0 }).withLog
    { records := [], reserve := 1, nextSeq := 0 }

/-- The same call, not suspended. -/
def closingA : State :=
  (atA { call0 with stage := .closing, closingDeadline := some 0 }).withLog { records := [], reserve := 1, nextSeq := 0 }

theorem placeLaw_suspendedA : PlaceLaw suspendedA := by
  refine ⟨fun b => ?_, fun l => ?_, fun stage h => ?_⟩
  · cases b
    · exact ⟨by decide, by decide⟩
    · show suspendedA.placesHeld .berthB = 0; decide
  · cases l <;> decide
  · cases h

theorem placeLaw_closingA : PlaceLaw closingA := by
  refine ⟨fun b => ?_, fun l => ?_, fun stage h => ?_⟩
  · cases b
    · exact ⟨by decide, by decide⟩
    · show closingA.placesHeld .berthB = 0; decide
  · cases l <;> decide
  · cases h

theorem witness_ArriveReplacesASuspendedVessel : PlaceLaw suspendedA ∧ suspendedA.keep.run = .running
    ∧ (∃ c, suspendedA.call .berthA = some c ∧ c.suspended = true ∧ 2 ≠ c.vesselId)
    ∧ arrivalValid { vesselId := 2, line := 1, capacity := 1, onBoard := 0 } = true
    ∧ (suspendedA.log.afterAppends [.tailgate none .l0 none] 0).reserve
        < 1024 - (suspendedA.log.afterAppends [.tailgate none .l0 none] 0).records.length
    ∧ ¬ (({ suspendedA.log with reserve := 1024 } : TripLog).afterAppends [.tailgate none .l0 none] 0).reserve
        < 1024 - (({ suspendedA.log with reserve := 1024 } : TripLog).afterAppends
            [.tailgate none .l0 none] 0).records.length :=
  ⟨placeLaw_suspendedA, rfl, ⟨_, rfl, rfl, by decide⟩, by decide, by decide, by decide⟩

theorem witness_SilenceDeadlineSuspendsTheCall : (atA call0).call .berthA = some call0 ∧ call0.suspended = false
    ∧ call0.silenceDeadline = some 0 ∧ 0 ≤ (atA call0).now := by decide

theorem witness_ClosingDeadlineReleasesEveryHolding : PlaceLaw closingA
    ∧ (∃ c, closingA.call .berthA = some c ∧ c.stage = .closing ∧ c.closingDeadline = some 0) :=
  ⟨placeLaw_closingA, _, rfl, rfl, rfl⟩

/-- The closing call with a commit in flight. -/
def closingCommitA : State :=
  (atA { call0 with stage := .closing, closingDeadline := some 0, reserved := 1, inFlight := [(.l0, .commit)] }).withLog
    { records := [], reserve := 1, nextSeq := 0 }

theorem witness_ClosingDeadline_commit : PlaceLaw closingCommitA
    ∧ ∃ c, closingCommitA.call .berthA = some c ∧ c.stage = .closing ∧ c.closingDeadline = some 0
      ∧ c.inFlight.countP (fun m => decide (m.2 = Holding.commit)) = 1 := by
  refine ⟨⟨fun b => ?_, fun l => ?_, fun stage h => ?_⟩, _, rfl, rfl, rfl, rfl⟩
  · cases b
    · exact ⟨by decide, by decide⟩
    · show closingCommitA.placesHeld .berthB = 0; decide
  · cases l <;> decide
  · cases h

theorem witness_BerthTakesCommitsAndReleases :
    ([(LaneId.l0, Holding.commit), (.l1, .release)] : List (LaneId × Holding))
        = [(.l0, .commit)] ++ (.l1, .release) :: []
    ∧ ((LaneId.l1, Holding.release) : LaneId × Holding) ∉ [(LaneId.l0, Holding.commit)]
    ∧ ((LaneId.l0, Holding.commit) : LaneId × Holding) ∉ ([] : List (LaneId × Holding)) := by decide

theorem witness_BerthRecordChangesLatchBerthEvent :
    callState (State.reset.call .berthA) ≠ callState (some call0)
    ∧ (overFlag (some call0) = false ∧ overFlag (some { call0 with isOver := true }) = true)
    ∧ ¬ (callState (some call0) ≠ callState (some call0) ∨ priorState (some call0) ≠ priorState (some call0)
        ∨ (overFlag (some call0) = false ∧ overFlag (some call0) = true)) := by decide

/-- A sensor whose deadlines are reached. -/
def due (level raw : Level) (blocked : Bool) : Conditioner :=
  { level := level, debounceDeadline := some 0, occupiedSince := some 0, blockedDeadline := some 0, blocked := blocked,
    raw := raw }

theorem witness_PassageLineIsDebounced :
    Level.occupied ≠ (State.reset.lane .l0).cond.raw ∧ State.reset.keep.run = .running
    ∧ (lastBut none (.held .resetLine)).keep.run ≠ .running
    ∧ (lastBut none (.warmRestart .record)).keep.run = .warmRestart .record
    ∧ (lastBut none (.warmRestart .finish)).keep.run = .warmRestart .finish
    ∧ (lastBut none (.warmRestart .restartRest)).keep.run ≠ .warmRestart .record
    ∧ (lastBut none (.warmRestart .restartRest)).keep.run ≠ .warmRestart .finish
    ∧ ((withL0 { lane0 with cond := due .clear .occupied false }).lane .l0).cond.debounceDeadline = some 0
    ∧ ((withL0 { lane0 with cond := due .clear .occupied false }).lane .l0).cond.raw = .occupied
    ∧ ((withL0 { lane0 with cond := due .occupied .occupied false }).lane .l0).cond.blockedDeadline = some 0
    ∧ 0 ≤ State.reset.now := by decide

theorem witness_PassageOffTheGatesFollowsTheRole :
    (∀ blocked ∈ [true, false], ((withL0 { lane0 with cond := due .occupied .clear blocked }).lane .l0).cond.raw = .clear)
    ∧ ((withL0 { lane0 with role := .alightA, cond := due .occupied .clear false }).lane .l0).role = .alightA
    ∧ State.reset.call .berthA = none ∧ (atA (boarding 1)).call .berthA = some (boarding 1) ∧ 0 < (boarding 1).onBoard
    ∧ (boarding 0).onBoard = 0 := by decide

theorem witness_PassageCommitsTheOldestOrIsATailgate :
    ((serving { lane0 with entries := [entryW, entry0], cond := due .occupied .clear false }).lane .l0).entries
        = [entryW] ++ entry0 :: []
    ∧ (∀ x ∈ [entryW], x.phase = .awaitWrite) ∧ entry0.phase = .awaitPassage
    ∧ (serving lane0).clock.calendar = some { day := 0, second := 0 }
    ∧ ((serving { lane0 with cond := due .occupied .clear false }).lane .l0).role = .entry
    ∧ (∀ x ∈ ((serving { lane0 with entries := [entryW] }).lane .l0).entries, x.phase = .awaitWrite)
    ∧ Role.boards .boardB = some .berthB := by decide

/-- An entry of the recent-tap table, committed at 5. -/
def tap0 : TapEntry := { newTapEntry token0 with held := false, uses := 1, commitTime := some 5 }

theorem witness_TapTableTakesClaimsCommitsAndReleases :
    tapFind [newTapEntry token0] token0.id = some (newTapEntry token0) ∧ (newTapEntry token0).held = true
    ∧ (newTapEntry token0).uses = 0
    ∧ tapFind [tap0] token0.id = some tap0 ∧ tap0.held = false ∧ tap0.commitTime = some 5 ∧ 5 ≤ 5 ∧ 5 < 6 ∧ tap0.uses ≠ 0
    ∧ tapFind [] token0.id = none ∧ ([] : List TapEntry).length < 512
    ∧ (List.replicate 512 { tap0 with tokenId := 8 }).length = 512
    ∧ tapFind (List.replicate 512 { tap0 with tokenId := 8 }) token0.id = none
    ∧ List.replicate 512 { tap0 with tokenId := 8 } = [] ++ { tap0 with tokenId := 8 } :: List.replicate 511 { tap0 with tokenId := 8 }
    ∧ ∀ y ∈ List.replicate 512 { tap0 with tokenId := 8, pinned := true }, y.held = true ∨ y.pinned = true := by
  refine ⟨by decide, rfl, rfl, by decide, rfl, rfl, by decide, by decide, by decide, rfl, by decide,
    List.length_replicate, ?_, rfl, fun y hy => ?_⟩
  · unfold tapFind
    rw [List.find?_eq_none]
    intro x hx
    rw [List.eq_of_mem_replicate hx]; decide
  · rw [List.eq_of_mem_replicate hy]; exact .inr rfl

/-- The part with a calendar and seconds due. -/
def atSecond (d n due : Nat) : State :=
  State.reset.withClock { timeBase := 0, calendar := some { day := d, second := n }, phase := 0, secondsDue := due }

theorem witness_CalendarSeconds_pins :
    ([{ tapLast with pinDay := some 4, pinned := true }] : List TapEntry)[0]?
        = some { tapLast with pinDay := some 4, pinned := true }
    ∧ (∃ pin, ({ tapLast with pinDay := some 4, pinned := true } : TapEntry).pinDay = some pin ∧ pin < 5)
    ∧ (∀ pin, ({ tapLast with pinDay := some 4, pinned := true } : TapEntry).pinDay = some pin → 4 ≤ pin) :=
  ⟨rfl, ⟨4, rfl, by decide⟩, fun _ h => by cases h; decide⟩

theorem witness_CalendarSecondsAndSetClock :
    (atSecond 0 86398 1).clock.calendar = some { day := 0, second := 86398 } ∧ 1 ≤ (atSecond 0 86398 1).clock.secondsDue
    ∧ (86398 < 86398 ∨ (86398 < 86399 ∧ 0 < 65535))
    ∧ (atSecond 65535 86398 1).clock.calendar = some { day := 65535, second := 86398 }
    ∧ (atSecond 65534 86399 1).clock.calendar = some { day := 65534, second := 86399 } ∧ 65534 < 65535
    ∧ (atSecond 0 0 0).clock.secondsDue = 0 ∧ State.reset.clock.calendar = none
    ∧ (65535 ≤ 65535 ∧ 86399 ≤ 86399) ∧ ¬ (65536 ≤ 65535 ∧ 0 ≤ 86399)
    ∧ (lastBut none (.held .resetLine)).keep.run ≠ .running := by decide

theorem witness_station_transfers : State.reset.keep.run = .running
    ∧ ((Instr.rttQuery .misfit, Command.rttQuery) : Instr × Command) ∈ [(Instr.rttQuery .misfit, Command.rttQuery)] := by
  decide

theorem witness_StationReadingsReportTheState :
    (15 ≤ 15 ∧ 31 ≤ 31) ∧ ¬ (16 ≤ 15 ∧ 31 ≤ 31) ∧ (1 ≤ 8 ∧ 8 ≤ 8) ∧ ¬ (1 ≤ 9 ∧ 9 ≤ 8) ∧ ¬ (1 ≤ 0 ∧ 0 ≤ 8)
    ∧ (7 : TokenId) ≠ 0 ∧ (∀ e ∈ ([] : List TapEntry), e.tokenId ≠ 7)
    ∧ [tap0] = [] ++ tap0 :: [] ∧ tap0.tokenId = 7 := by decide

theorem witness_StationSetsTheSettings :
    LaneId.ofCode 7 = some .l7 ∧ LaneId.ofCode 8 = none ∧ laneSettingsValid LaneSettings.default = true
    ∧ laneSettingsValid { LaneSettings.default with debounce := 256 } = false
    ∧ Role.off = (State.reset.lane .l7).role ∧ Role.entry ≠ (State.reset.lane .l0).role
    ∧ ((withL0 { lane0 with entries := [entry0] }).lane .l0).entries ≠ []
    ∧ (State.reset.lane .l0).ctx = .free ∧ (State.reset.lane .l0).entries = []
    ∧ (1 ≤ 4095 ∧ 4095 ≤ 4095 ∧ 600 ≤ 600 ∧ 1 ≤ 1023 ∧ 1023 ≤ 1023 ∧ 5 ≤ 60 ∧ 60 ≤ 60)
    ∧ decodeFare (zeros 12) = some .empty ∧ (zeros 12).length = 12 ∧ decodeFare (6 :: zeros 11) = none
    ∧ (withPort0 none (some .rebuild)).port.job ≠ none ∧ State.reset.port.job = none := by decide

theorem witness_StationOrdersABerth :
    BerthId.ofCode 1 = some .berthB ∧ BerthId.ofCode 2 = none
    ∧ planValid { vesselId := some 65535, cap := some 900, line := some 15, grace := some 60 } = true
    ∧ planValid { vesselId := none, cap := some 901, line := none, grace := none } = false
    ∧ (1 ≤ 900 ∧ 900 ≤ 900) ∧ ¬ (1 ≤ 901 ∧ 901 ≤ 900)
    ∧ (∀ c ∈ [call0, { call0 with suspended := true }, { call0 with reserved := 1 }, { call0 with stage := .closing },
          { call0 with stage := .handover }],
        (atA c).call .berthA = some c) := by decide

theorem witness_ForceVacateAndLaneClearEndTheHoldings : PlaceLaw busy
    ∧ (∃ c, busy.call .berthA = some c) ∧ State.reset.call .berthA = none ∧ BerthId.ofCode 0 = some .berthA
    ∧ LaneId.ofCode 0 = some .l0 ∧ BerthId.ofCode 2 = none ∧ LaneId.ofCode 8 = none
    ∧ (∃ e d, ((withL0 { lane0 with ctx := .waiting eval0 0, takeHeld := true }).lane .l0).ctx = .waiting e d) :=
  ⟨busy_places, ⟨_, rfl⟩, rfl, rfl, rfl, rfl, rfl, ⟨_, _, rfl⟩⟩

/-- A standby bank being filled. -/
def filling (buf : Option Buffer) (used : Nat) : DenyUnit :=
  { DenyUnit.initial with standby := .opened, buffer := buf, overflowUsed := used }

/-- A buffer with `n` entries of token 7. -/
def buffer0 (bucket position n : Nat) : Buffer :=
  { bucket := bucket, position := position, target := bucket,
    entries := List.replicate n { tokenId := 7, action := .refuse, reason := 1 } }

theorem witness_ListCommandsFillTheStandbyBank :
    (State.reset.withDeny (filling none 0)).deny.standby = .opened ∧ State.reset.deny.standby = .stale
    ∧ (∃ q ∈ [{ lookup0 with captured := some Bank.bankA }], q.captured = some Bank.bankB.other)
    ∧ (∀ q ∈ [lookup0], q.captured ≠ some Bank.bankB.other)
    ∧ (withPort0 none (some .rebuild)).port.job ≠ none ∧ (filling none 0).generation ≠ 4294967295
    ∧ ({ filling none 0 with generation := 4294967295 } : DenyUnit).generation = 4294967295
    ∧ ([] : List AddEntry).length = 0 ∧ (8 : Nat) ≤ 8
    ∧ ((7 : TokenId) ≠ 0 ∧ 1 ≤ 127 ∧ 127 ≤ 127)
    ∧ bucketOf 7 = 7 ∧ bucketOf 7 < (buffer0 8 1 1).bucket ∧ (buffer0 6 1 1).bucket < bucketOf 7
    ∧ (∃ x ∈ (buffer0 7 1 1).entries, x.tokenId = 7) ∧ (∀ x ∈ (buffer0 4103 1 31).entries, x.tokenId ≠ 0x1006)
    ∧ (buffer0 7 1 30).entries.length < 31 ∧ 31 ≤ (buffer0 7 3 31).entries.length ∧ (buffer0 7 3 31).position = 3
    ∧ (buffer0 7 2 31).position ≠ 3 ∧ (filling none 1023).overflowUsed = 1023 ∧ (filling none 1022).overflowUsed ≠ 1023 := by
  decide

theorem witness_PortGrantsAndSuspends :
    lookup0.reading = false ∧ lookup0.captured = none ∧ State.reset.port.op = none ∧ State.reset.port.job = none
    ∧ State.reset.port.due = none ∧ (withPort0 (some .reset) none).port.op ≠ none
    ∧ (grantedLookup0 none).port.due = some (.lookup false) ∧ (grantedLookup0 none).deny.queue = lookup0 :: []
    ∧ State.reset.arbitrate.port.due = none
    ∧ ({ portOf none (some (.listErase 0)) with due := some .job } : FlashPort).due = some .job
    ∧ ({ portOf none (some (.listErase 0)) with streak := 7 } : FlashPort).streak < 8
    ∧ 8 ≤ ({ portOf none (some (.listErase 0)) with streak := 8 } : FlashPort).streak
    ∧ ({ portOf none (some (.listErase 1)) with held := some held0 } : FlashPort).held = some held0
    ∧ (withPort0 (some (.sectorErase 319)) (some (.listErase 0))).port.op = some (.sectorErase 319)
    ∧ ({ portOf none none with runSince := some 0, suspendCount := 7 } : FlashPort).suspendCount < 8
    ∧ 0 + 2 ≤ (atTime State.reset 2).now ∧ (atTime State.reset 1).now < 0 + 2
    ∧ (atTime State.reset 1999).now < held0.issued + 2000 ∧ held0.issued + 2000 ≤ (atTime State.reset 2000).now
    ∧ (withPort0 (some (.suspend 319)) none).port.op = some (.suspend 319)
    ∧ ((3 : Nat) ≤ 35 ∧ 35 < 36 ∧ 2 < 3) := by decide

/-- A deny page's bytes, with its check. -/
def denyPage0 (next : Option Nat) : Page := denyPageBytes { entries := [], next := next }

set_option maxRecDepth 20000 in
theorem witness_PageReadReachesItsRequester :
    judgeReads { first := blanks 256, second := [], third := [] } = (.erased, 0)
    ∧ (judgeReads { first := [], second := [], third := [] }) = (.unreadable, 2)
    ∧ decodeDenyPage (denyPage0 (some 1022)) = some { entries := [], next := some 1022 }
    ∧ decodeDenyPage (denyPage0 none) = some { entries := [], next := none }
    ∧ decodeDenyPage (blanks 256) = none
    ∧ (∀ h, State.reset.port.held = some h → State.reset.now < h.issued + 2000)
    ∧ (∃ h, ({ portOf none none with held := some held0 } : FlashPort).held = some h
        ∧ h.issued + 2000 ≤ (atTime State.reset 2000).now)
    ∧ ((withL0 { lane0 with ctx := .waiting eval0 0 }).lane lookup0.lane).ctx = .waiting eval0 0
    ∧ lookup0.position = 1 ∧ ({ lookup0 with position := 3 } : Lookup).position = 3
    ∧ (withPort0 (some (.pageRead .withdrawn 5)) none).port.op = some (.pageRead .withdrawn 5)
    ∧ (4094 < 4095 ∧ 4095 ≤ 4095) := by
  refine ⟨by decide +kernel, by decide +kernel, by decide +kernel, by decide +kernel, by decide +kernel, fun h hh => ?_,
    ⟨_, rfl, by decide⟩, rfl, rfl, rfl, rfl, by decide, by decide⟩
  cases hh

theorem witness_OperationsEndWithTheirOwnersResponse :
    (withPort0 (some (.sectorErase 319)) (some (.listErase 0))).port.job = some (.listErase 0)
    ∧ (318 < 319 ∧ 319 ≤ 319 ∧ 35 < 36 ∧ 36 ≤ 36)
    ∧ (withPort0 (some (.pageProgram 5119 [] 0)) (some (.commit none))).port.op = some (.pageProgram 5119 [] 0)
    ∧ (withPort0 (some (.pageProgram 5119 [] 0)) (some (.commit none))).port.held = none
    ∧ (withPort0 (some (.pageProgram 5119 [] 0)) (some (.commit none))).port.suspendCount = 0
    ∧ 0 + 10 ≤ (atTime State.reset 10).now ∧ (atTime State.reset 9).now < 0 + 10
    ∧ ({ portOf none (some (.listErase 0)) with held := some held0 } : FlashPort).held = some held0
    ∧ held0.issued + 2000 ≤ (atTime State.reset 2000).now ∧ (atTime State.reset 2000).now ≤ held0.issued + 2000
    ∧ held0.issued + 2000 < (atTime State.reset 2001).now
    ∧ (atTime State.reset 10).now ≤ 0 + 10 ∧ 0 + 10 < (atTime State.reset 11).now
    ∧ (lastBut none (.warmRestart .record)).keep.run = .warmRestart .record
    ∧ (withPort0 (some .reset) none).port.op = some .reset := by decide

/-- The part in a hold with its pins. -/
def heldState (begun : ResetCause) (resetInput coreUp latch : Bool) : State :=
  State.reset.withKeep { State.reset.keep with
    run := .held begun, resetInput := resetInput, coreUp := coreUp, latch := latch }

theorem witness_ResetLineHoldsThePart : State.reset.keep.resetInput = false ∧ State.reset.keep.coreUp = true
    ∧ (∀ r, State.reset.keep.run ≠ .held r) ∧ (heldState .resetLine true false false).keep.run = .held .resetLine
    ∧ (Instr.fromOutside .portGrant = false ∧ Instr.viaStation .portGrant = false ∧ Instr.viaStation .emptyFrame = true)
    ∧ (heldState .resetLine false false false).keep.resetInput = false
    ∧ (heldState .resetLine true true false).keep.coreUp = true
    ∧ (lastBut none (.warmRestart .record)).keep.run = .warmRestart .record ∧ Instr.portGrant ≠ .flashResetEnd :=
  ⟨rfl, rfl, (fun _ h => nomatch h), rfl, ⟨rfl, rfl, rfl⟩, rfl, rfl, rfl, by decide⟩

theorem placeLaw_held (r : ResetCause) (a b c : Bool) : PlaceLaw (heldState r a b c) := by
  refine ⟨fun k => ?_, fun l => ?_, fun stage h => ?_⟩
  · cases k
    · show (heldState r a b c).placesHeld .berthA = 0; rfl
    · show (heldState r a b c).placesHeld .berthB = 0; rfl
  · cases l <;> (intro e he; cases he)
  · cases h

theorem witness_WarmRestartKeepsAndEnds : busy.keep.latch = false ∧ busy.keep.mark ≠ .cold ∧ PlaceLaw busy
    ∧ busy.keep.run = .running ∧ PlaceLaw (heldState .resetLine true true false)
    ∧ (heldState .resetLine true true false).keep.run = .held .resetLine
    ∧ PlaceLaw (heldState .resetLine false false false)
    ∧ (heldState .resetLine false false false).keep.coreUp = false ∧ busy.pending = []
    ∧ (∃ c, busy.call .berthA = some c ∧ c.inFlight.countP (fun m => decide (m.2 = Holding.commit)) = 0)
    ∧ State.reset.call .berthB = none :=
  ⟨rfl, by decide, busy_places, rfl, placeLaw_held .., rfl, placeLaw_held .., rfl, rfl, ⟨_, rfl, rfl⟩, rfl⟩

theorem witness_LostStateOrPowerOnStartsCold :
    (State.reset.withKeep { State.reset.keep with latch := true }).keep.latch = true
    ∧ (heldState .resetLine true true true).keep.latch = true
    ∧ (heldState .resetLine false false true).keep.run = .held .resetLine
    ∧ (heldState .resetLine false false false).keep.coreUp = false
    ∧ (heldState .powerOn true true false).keep.run = .held .powerOn := by decide

/-- The part in a stage of a cold start with an operation at the flash. -/
def coldAt (stage : ColdStage) (op : Option FlashOp) : State := (State.reset.beginCold .powerOn).coldStage stage op

theorem judgeReads_header :
    judgeReads { first := imageHeaderBytes, second := [], third := [] } = (.good imageHeaderBytes, 0) := by
  simp only [judgeReads, imageHeaderBytes_reads]

/-- The 32 fare pages of an image whose every entry is EMPTY. -/
def emptyFare : List Page := List.replicate 32 (farePageBytes (List.replicate 16 .empty))

/-- The settings after reset, as a store copies them. -/
def stored0 : SettingsCopy :=
  { fare := (List.replicate 32 (List.replicate 16 FareEntry.empty)).flatten
    lanes := State.reset.lanes.map Lane.image, landing := LandingSettings.default }

theorem emptyFare_half : fareHalf (farePageBytes (List.replicate 16 .empty)) = some (List.replicate 16 .empty) := by
  decide +kernel

theorem stored0_reads : imageSettings (emptyFare ++ [settingsPageBytes stored0]) = some stored0 := by
  refine imageSettings_of (c := stored0) (fare := stored0.fare) ?_ rfl (fun l => by cases l <;> decide) (by decide)
  have ht : (emptyFare ++ [settingsPageBytes stored0]).take 32 = emptyFare :=
    List.take_left' List.length_replicate
  rw [ht]
  simp only [imageFare, emptyFare, List.map_replicate, emptyFare_half]
  rfl

theorem witness_ColdStartReadsTheFlash :
    (coldAt (.flashReset 2000) (some .reset)).keep.run = .coldStart (.flashReset 2000) ∧ 2000 ≤ 2000 ∧ 1999 < 2000
    ∧ (coldAt (.flashReset 2000) (some .reset)).port.op = some .reset
    ∧ 2000 < 2001 ∧ (coldAt (.flashReset 2001) (some .reset)).keep.run = .coldStart (.flashReset 2001)
    ∧ (coldAt .imageHeader (startUpRead 10240)).port.op = some (.pageRead .startUp 10240)
    ∧ imageHeaderValid .erased = false
    ∧ judgeReads { first := imageHeaderBytes, second := [], third := [] } = (.good imageHeaderBytes, 0)
    ∧ imageHeaderValid (.good imageHeaderBytes) = true
    ∧ (emptyFare.length = 32 ∧ imageSettings (emptyFare ++ [settingsPageBytes stored0]) = some stored0)
    ∧ (coldAt (.imageContent []) (startUpRead 10241)).keep.run = .coldStart (.imageContent [])
    ∧ (List.replicate 31 page0).length < 32 ∧ 32 ≤ (List.replicate 32 page0).length
    ∧ (coldAt .bankHeaderA (startUpRead 5119)).keep.run = .coldStart .bankHeaderA
    ∧ (coldAt (.bankHeaderB (some 1)) (startUpRead 10239)).keep.run = .coldStart (.bankHeaderB (some 1)) := by
  refine ⟨rfl, by decide, by decide, rfl, by decide, rfl, rfl, rfl, judgeReads_header, imageHeaderBytes_valid,
    ⟨List.length_replicate, stored0_reads⟩, rfl, ?_, ?_, rfl, rfl⟩ <;> simp

end Sys2Proof.Tests
end

section
/-!
PROOF. The record of a berth: a change of it, the reply formed after it, and what a good dock frame does first (R4 to
R6, R37); and the statements that are about one berth's messages and the station's orders to it.
-/
namespace Sys2Proof.Machine

/-! ## A berth record replaced -/

/-- The causes after a change of a berth record: BERTH_EVENT is added where R37 says so, and nothing else is. -/
theorem State.setCall_eq (s : State) (b : BerthId) (c : Option Call) :
    s.setCall b c = (s.setBerth b { s.berth b with call := c }).latch fun x =>
      { x with berthEvent := x.berthEvent || berthEvent (s.call b) c } := by
  unfold State.setCall
  cases h : berthEvent (s.call b) c
  · simp only [Bool.or_false]; rfl
  · simp only [Bool.or_true]; rfl

/-- What R37 names, as a proposition. -/
theorem berthEvent_iff (c d : Option Call) :
    berthEvent c d = true ↔ callState c ≠ callState d ∨ priorState c ≠ priorState d
      ∨ (overFlag c = false ∧ overFlag d = true) := by
  simp [berthEvent, or_assoc]

/-- Where R37 names the change, BERTH_EVENT is latched. -/
theorem State.setCall_latched {s : State} {b : BerthId} {c : Option Call} (h : berthEvent (s.call b) c = true) :
    s.setCall b c = (s.setBerth b { s.berth b with call := c }).latchBerthEvent := by
  unfold State.setCall
  rw [h]
  rfl

/-- Where it does not, only the record changes. -/
theorem State.setCall_quietly {s : State} {b : BerthId} {c : Option Call} (h : berthEvent (s.call b) c = false) :
    s.setCall b c = s.setBerth b { s.berth b with call := c } := by
  unfold State.setCall
  rw [h]
  rfl

/-- Settles O42: the condition of R37 is `berthEvent`, and a message joins an open call without meeting it. -/
theorem berthRecordChangesLatchBerthEvent : Obligations.BerthRecordChangesLatchBerthEvent := by
  unfold Obligations.BerthRecordChangesLatchBerthEvent
  refine ⟨fun s b c => ⟨fun h => ?_, fun h => ?_⟩, fun s l m => ⟨rfl, fun b => ⟨fun c hc => ?_, fun hc => ?_⟩⟩⟩
  · exact State.setCall_latched ((berthEvent_iff _ _).mpr h)
  · exact State.setCall_quietly (Bool.eq_false_iff.mpr fun e => h ((berthEvent_iff _ _).mp e))
  · exact State.sendBerth_some hc l m
  · exact State.sendBerth_none hc l m

/-! ## The reply formed on a dock link -/

/-- A record set and a reply formed are one change of the berth. -/
theorem State.setBerth_replyDock (s : State) (b : BerthId) (c : Option Call) (r : Option DockReply) :
    (s.setBerth b { s.berth b with call := c }).replyDock b r = s.docked b c r := by
  simp [State.replyDock, State.docked]

/-- A reply alone leaves the record as it is. -/
theorem State.replyDock_eq_docked {s : State} {b : BerthId} {c : Option Call} (hc : s.call b = c)
    (r : Option DockReply) : s.replyDock b r = s.docked b c r := by
  subst hc; rfl

/-- A second record set before the reply, where the state of the call moves: BERTH_EVENT is latched (R37). -/
theorem State.setBerth_setCall_replyDock {s : State} {b : BerthId} {c d : Option Call}
    (h : callState c ≠ callState d) (r : Option DockReply) :
    ((s.setBerth b { s.berth b with call := c }).setCall b d).replyDock b r = (s.docked b d r).latchBerthEvent := by
  rw [State.setCall_moved (by simpa using h)]
  simp only [State.setBerth_berth, State.setBerth_setBerth]
  exact congrArg State.latchBerthEvent (s.setBerth_replyDock b d r)

/-- The same with no record set before. -/
theorem State.setCall_replyDock {s : State} {b : BerthId} {d : Option Call} (h : callState (s.call b) ≠ callState d)
    (r : Option DockReply) : (s.setCall b d).replyDock b r = (s.docked b d r).latchBerthEvent := by
  rw [State.setCall_moved h]
  exact congrArg State.latchBerthEvent (s.setBerth_replyDock b d r)

/-! ## A good dock frame -/

theorem Call.heard_suspended {c : Call} (h : c.suspended = true) (now : Nat) : c.heard now = c := by
  simp [Call.heard, h]

theorem Call.heard_awake {c : Call} (h : c.suspended = false) (now : Nat) :
    c.heard now = { c with silenceDeadline := some (now + 3000) } := by
  simp [Call.heard, h, silenceMs]

/-- Moving the silence deadline moves no state of the berth. -/
theorem callState_heard (c : Call) (now : Nat) : callState (some (c.heard now)) = callState (some c) := by
  unfold Call.heard
  split <;> rfl

/-- A good frame whose answer changes nothing: the silence deadline and the reply (R4 to R6). -/
theorem State.onDock_answered {α : Type} {s : State} {b : BerthId} {c : Call} (h : s.keep.run = .running)
    (hc : s.call b = some c) {a : α} {f : α → State → State × DockReply} {r : DockReply}
    (hf : ∀ t : State, t = s.setBerth b { s.berth b with call := some (c.heard s.now) } → f a t = (t, r)) :
    s.onDock b (.fit a) f = s.docked b (some (c.heard s.now)) (some r) := by
  rw [State.onDock_fit h hc, hf _ rfl]
  exact s.setBerth_replyDock b _ _

/-- A good frame whose answer moves the state of the call (R4 to R6, R37). -/
theorem State.onDock_moved {α : Type} {s : State} {b : BerthId} {c : Call} {d : Option Call}
    (h : s.keep.run = .running) (hc : s.call b = some c) {a : α} {f : α → State → State × DockReply} {r : DockReply}
    (hd : callState (some c) ≠ callState d)
    (hf : ∀ t : State, t = s.setBerth b { s.berth b with call := some (c.heard s.now) } → f a t = (t.setCall b d, r)) :
    s.onDock b (.fit a) f = (s.docked b d (some r)).latchBerthEvent := by
  rw [State.onDock_fit h hc, hf _ rfl]
  exact State.setBerth_setCall_replyDock (by rwa [callState_heard]) _

/-- A good frame at a VACANT berth whose answer changes nothing. -/
theorem State.onDock_vacant {α : Type} {s : State} {b : BerthId} (h : s.keep.run = .running)
    (hc : s.call b = none) {a : α} {f : α → State → State × DockReply} {r : DockReply} (hf : f a s = (s, r)) :
    s.onDock b (.fit a) f = s.docked b none (some r) := by
  rw [State.onDock_fit_vacant h hc, hf]
  exact State.replyDock_eq_docked hc _

end Sys2Proof.Machine
end

section
/-!
PROOF. The five messages of the dock link and the frames outside them, in every state of the berth (R4 to R15, R21,
R22).
-/
namespace Sys2Proof.Machine

/-- Settles O31, by the state of the berth. -/
theorem rampOpenMovesAlightingToBoarding : Obligations.RampOpenMovesAlightingToBoarding := by
  unfold Obligations.RampOpenMovesAlightingToBoarding
  intro s b hr
  refine ⟨fun hc => ?vacant, fun c hc => ⟨fun hs => ?suspended, ?awake⟩⟩
  case vacant => exact congrArg _ (State.onDock_vacant hr hc (by simp [State.takeRampOpen, hc]))
  case suspended =>
    rw [← c.heard_suspended hs s.now]
    refine congrArg _ (State.onDock_answered hr hc fun t ht => ?_)
    simp [State.takeRampOpen, ht, c.heard_suspended hs, hs]
  case awake =>
    rintro hs d rfl
    rw [← c.heard_awake hs s.now]
    refine ⟨fun hg => ⟨congrArg _ (State.onDock_moved hr hc ?_ fun t ht => ?_), ?_⟩,
      fun hg => congrArg _ (State.onDock_answered hr hc fun t ht => ?_),
      fun hg => congrArg _ (State.onDock_answered hr hc fun t ht => ?_),
      fun hg => congrArg _ (State.onDock_answered hr hc fun t ht => ?_)⟩
    · simp [callState, c.heard_awake hs, hs, hg]
    · simp [State.takeRampOpen, ht, c.heard_awake hs, hs, hg]
    · simp [admissionRefusal, c.heard_awake hs, hs]
    all_goals simp [State.takeRampOpen, ht, c.heard_awake hs, hs, hg]

/-- Settles O32: the answer reads the record and changes nothing. -/
theorem countQueryAnswersInEveryState : Obligations.CountQueryAnswersInEveryState := by
  unfold Obligations.CountQueryAnswersInEveryState
  intro s b hr
  refine ⟨fun hc => ?vacant, fun c hc => ⟨fun hs => ?suspended, fun hs => ?awake⟩⟩
  case vacant => exact congrArg _ (State.onDock_vacant hr hc (by simp [countReply, hc]))
  case suspended =>
    have hn : DockReply.count .suspended (some c.stage) c.onBoard c.reserved c.boarded c.alighted c.tailgates
        c.effectiveCap c.isOver = countReply (some c) := by simp [countReply, callState, priorState, hs]
    rw [hn, ← c.heard_suspended hs s.now]
    refine congrArg _ (State.onDock_answered hr hc fun t ht => ?_)
    simp [ht, c.heard_suspended hs]
  case awake =>
    have hn : DockReply.count (callState (some c)) none c.onBoard c.reserved c.boarded c.alighted c.tailgates
        c.effectiveCap c.isOver = countReply (some (c.heard s.now)) := by
      simp [countReply, callState, priorState, c.heard_awake hs, hs]
    rw [hn, ← c.heard_awake hs s.now]
    refine congrArg _ (State.onDock_answered hr hc fun t ht => ?_)
    simp [ht]

/-- Settles O33, by the state of the berth and, where the call closes, by what is reserved. -/
theorem departReqClosesTheBerth : Obligations.DepartReqClosesTheBerth := by
  unfold Obligations.DepartReqClosesTheBerth
  intro s b hr
  refine ⟨fun hc => ?vacant, fun c hc => ⟨fun hs => ?suspended, ?awake⟩⟩
  case vacant => exact congrArg _ (State.onDock_vacant hr hc (by simp [State.takeDepartReq, hc]))
  case suspended =>
    rw [← c.heard_suspended hs s.now]
    refine congrArg _ (State.onDock_answered hr hc fun t ht => ?_)
    simp [State.takeDepartReq, ht, c.heard_suspended hs, hs]
  case awake =>
    rintro hs d rfl
    have hh := c.heard_awake hs s.now
    rw [← hh]
    refine ⟨fun hg => ⟨fun h0 => ?_, fun h0 => ?_⟩, fun hg => ?_, fun hg => ?_⟩
    · refine congrArg _ (State.onDock_moved hr hc ?_ fun t ht => ?_)
      · rcases hg with hg | hg <;> simp [callState, hh, hs, hg]
      · rcases hg with hg | hg <;> simp [State.takeDepartReq, departReply, Call.close, ht, hh, hs, hg, h0]
    · refine congrArg _ (State.onDock_moved hr hc ?_ fun t ht => ?_)
      · rcases hg with hg | hg <;> simp [callState, hh, hs, hg]
      · rcases hg with hg | hg <;>
          simp [State.takeDepartReq, departReply, Call.close, Call.graceMs, ht, hh, hs, hg, h0]
    · refine congrArg _ (State.onDock_answered hr hc fun t ht => ?_)
      simp [State.takeDepartReq, departReply, ht, hh, hs, hg]
    · refine congrArg _ (State.onDock_answered hr hc fun t ht => ?_)
      simp [State.takeDepartReq, departReply, ht, hh, hs, hg]

/-- The end of a call, its record and its berth (R8). -/
theorem State.endCall_some {s : State} {b : BerthId} {c : Call} (hc : s.call b = some c) (n : Bool) :
    s.endCall b n = ((s.appendReserved (c.departure s.clock.calendar n)).setBerth b
      { s.berth b with call := none }).latchBerthEvent := by
  unfold State.endCall
  simp only [hc]
  rw [State.setCall_moved]
  · rfl
  · show callState (s.call b) ≠ _
    rw [hc]
    cases h : c.suspended <;> cases h' : c.stage <;> simp [callState, h, h']

/-- Settles O34, by the state of the berth. -/
theorem handoverTakenEndsTheCall : Obligations.HandoverTakenEndsTheCall := by
  unfold Obligations.HandoverTakenEndsTheCall
  intro s b hr
  refine ⟨fun hc => ?vacant, fun c hc => ⟨fun hs => ?suspended, fun hs hg => ?handover, fun hs hg => ?other⟩⟩
  case vacant => exact congrArg _ (State.onDock_vacant hr hc (by simp [State.takeHandover, hc]))
  case suspended =>
    rw [← c.heard_suspended hs s.now]
    refine congrArg _ (State.onDock_answered hr hc fun t ht => ?_)
    simp [State.takeHandover, ht, c.heard_suspended hs, hs]
  case handover =>
    have hh := c.heard_awake hs s.now
    refine congrArg Host.Outcome.next ?_
    rw [State.onDock_fit hr hc, hh]
    simp only [State.takeHandover, State.setBerth_call, hs, hg, Bool.false_eq_true, if_false]
    rw [State.endCall_some (s.setBerth_call b _)]
    simp only [State.setBerth_berth]
    simp [State.replyDock, State.docked, State.latchBerthEvent, State.latch, State.appendReserved, State.setBerth,
      State.withBerths, State.withLog, State.withStation, State.berth, TripLog.appendReserved, TripLog.append,
      TripLog.releaseSlot, Call.departure]
  case other =>
    have hh := c.heard_awake hs s.now
    rw [← hh]
    refine congrArg _ (State.onDock_answered hr hc fun t ht => ?_)
    cases h : c.stage
    case handover => exact absurd h hg
    all_goals simp [State.takeHandover, ht, hh, hs, h, callState]

/-- The ranges of an ARRIVE's fields (R9). -/
theorem arrivalValid_iff (a : ArriveArgs) : arrivalValid a = true ↔
    1 ≤ a.vesselId ∧ a.vesselId ≤ 65535 ∧ 1 ≤ a.line ∧ a.line ≤ 15 ∧ 1 ≤ a.capacity ∧ a.capacity ≤ 900 := by
  simp [arrivalValid, within_iff, and_assoc]

/-- Room for one more slot is the test of the log's claim (R191). -/
theorem TripLog.reserveSlot_room {g : TripLog} (h : g.reserve < 1024 - g.records.length) :
    g.reserveSlot = some { g with reserve := g.reserve + 1 } := by
  simp [TripLog.reserveSlot, TripLog.room, TripLog.freeSlots, h]

theorem TripLog.reserveSlot_full {g : TripLog} (h : ¬ g.reserve < 1024 - g.records.length) : g.reserveSlot = none := by
  simp [TripLog.reserveSlot, TripLog.room, TripLog.freeSlots, h]

/-- Settles O36, by the state of the call and the vessel that arrives. -/
theorem arriveAtAnOpenCallKeepsIt : Obligations.ArriveAtAnOpenCallKeepsIt := by
  unfold Obligations.ArriveAtAnOpenCallKeepsIt
  intro s b a c hr hc
  refine ⟨fun hs hv => ?already, fun hs hv => ?occupied, fun hs hv => ?resumed, fun hs hv ha => ?bad⟩
  case already =>
    rw [← c.heard_awake hs s.now]
    refine congrArg _ (State.onDock_answered hr hc fun t ht => ?_)
    simp [State.takeArrive, ht, c.heard_awake hs, hs, hv, callState]
  case occupied =>
    rw [← c.heard_awake hs s.now]
    refine congrArg _ (State.onDock_answered hr hc fun t ht => ?_)
    simp [State.takeArrive, ht, c.heard_awake hs, hs, hv, callState]
  case resumed =>
    refine congrArg _ (State.onDock_moved hr hc ?_ fun t ht => ?_)
    · cases c.stage <;> simp [callState, hs]
    · simp [State.takeArrive, ht, c.heard_suspended hs, hs, hv, Call.resume, silenceMs, callState, State.now]
  case bad =>
    have hb : arrivalValid a = false := Bool.eq_false_iff.mpr fun h => ha ((arrivalValid_iff a).mp h)
    rw [← c.heard_suspended hs s.now]
    refine congrArg _ (State.onDock_answered hr hc fun t ht => ?_)
    simp [State.takeArrive, State.replaceVessel, ht, c.heard_suspended hs, hs, hv, hb, callState]

/-- A misshapen frame of any kind: the silence deadline and the refusal (R4, R6). -/
theorem State.onDock_misfit {α : Type} {s : State} (b : BerthId) (h : s.keep.run = .running)
    (f : α → State → State × DockReply) :
    s.onDock b .misfit f = s.docked b ((s.call b).map fun c => c.heard s.now)
      (some (.refusedBadMessage (callState (s.call b)))) := by
  unfold State.onDock
  rw [State.whenRunning_of h]
  cases hc : s.call b with
  | none =>
    simp only [State.updCall_none hc, hc]
    exact State.replyDock_eq_docked hc _
  | some c =>
    have hh : s.updCall b (fun c => c.heard s.now) = s.setBerth b { s.berth b with call := some (c.heard s.now) } := by
      rw [State.updCall_some hc]
      exact State.setCall_same hc (by unfold Call.heard; split <;> rfl) (by unfold Call.heard; split <;> rfl)
        (by unfold Call.heard; split <;> rfl)
    simp only [hh, State.setBerth_call, callState_heard]
    exact s.setBerth_replyDock b _ _

/-- Settles O38: a bad frame forms no reply; the other frames move the silence deadline and are refused. -/
theorem dockFramesOutsideTheFiveAreRefused : Obligations.DockFramesOutsideTheFiveAreRefused := by
  unfold Obligations.DockFramesOutsideTheFiveAreRefused
  intro s b hr
  refine ⟨congrArg _ ((State.whenRunning_of hr _).trans (State.replyDock_eq_docked rfl _)), ?_⟩
  rintro d rfl
  have hd : (s.call b).map (fun c => if c.suspended then c else { c with silenceDeadline := some (s.now + 3000) })
      = (s.call b).map fun c => c.heard s.now := rfl
  rw [hd]
  refine ⟨congrArg Host.Outcome.next ?_, congrArg _ (s.onDock_misfit b hr _), congrArg _ (s.onDock_misfit b hr _),
    congrArg _ (s.onDock_misfit b hr _), congrArg _ (s.onDock_misfit b hr _), congrArg _ (s.onDock_misfit b hr _)⟩
  cases hc : s.call b with
  | none => exact State.onDock_vacant hr hc (by rw [hc])
  | some c => exact State.onDock_answered hr hc fun t ht => by simp [ht, callState_heard]

end Sys2Proof.Machine
end

section
/-!
PROOF. An ARRIVE at a VACANT berth, the silence deadline, a lane's message taken, and the station's orders (R9, R10,
R17, R19, R26, R28, R31 to R35).
-/
namespace Sys2Proof.Machine

/-! ## An arrival at a VACANT berth -/

/-- An ARRIVE of bad fields opens nothing (R9 step 1). -/
theorem State.openCall_bad (s : State) (b : BerthId) {a : ArriveArgs} (ha : arrivalValid a = false) :
    s.openCall b a = (s, .arriveRefused (callState (s.call b)) .badArrival) := by
  simp [State.openCall, ha]

/-- Without room in the log nothing is opened (R9 step 2). -/
theorem State.openCall_full {s : State} (b : BerthId) {a : ArriveArgs} (ha : arrivalValid a = true)
    (hl : ¬ s.log.reserve < 1024 - s.log.records.length) :
    s.openCall b a = (s, .arriveRefused (callState (s.call b)) .logFull) := by
  simp [State.openCall, ha, TripLog.reserveSlot_full hl]

/-- An accepted ARRIVE: the slot, the call, the plan used up where it applies, and the reply (R9, R10). -/
theorem State.openCall_room {s : State} {b : BerthId} {a : ArriveArgs} (ha : arrivalValid a = true)
    (hl : s.log.reserve < 1024 - s.log.records.length) {c : Call} {applied : Bool} {t : State}
    (hc : openedCall a (s.berth b).plan s.clock.calendar s.now = c)
    (hp : planApplies (s.berth b).plan a.vesselId = applied)
    (ht : (s.withLog { s.log with reserve := s.log.reserve + 1 }).setCall b (some c) = t) :
    s.openCall b a = (if applied then t.setPlan b none else t,
      .arriveAccepted (callState (some c)) applied c.effectiveCap c.line) := by
  subst hc hp ht
  simp [State.openCall, ha, TripLog.reserveSlot_room hl]

/-- Settles O35: the checks of R9 in order, then the plan cases of R10. -/
theorem arriveAtVacantOpensTheCall : Obligations.ArriveAtVacantOpensTheCall := by
  unfold Obligations.ArriveAtVacantOpensTheCall
  intro s b a hr hv
  have hx : exec (.arrive b (.fit a)) s
      = .next ((s.openCall b a).1.replyDock b (some (s.openCall b a).2)) := by
    refine congrArg Host.Outcome.next ((State.onDock_fit_vacant hr hv a _).trans ?_)
    simp only [State.takeArrive, hv]
  refine ⟨fun ha => ?bad, fun ha => ⟨fun hl => ?full, ?room⟩⟩
  case bad =>
    have hb : arrivalValid a = false := Bool.eq_false_iff.mpr fun h => ha ((arrivalValid_iff a).mp h)
    rw [hx, s.openCall_bad b hb, hv]
    exact congrArg _ (State.replyDock_eq_docked hv _)
  case full =>
    rw [hx, State.openCall_full b ((arrivalValid_iff a).mpr ha) hl, hv]
    exact congrArg _ (State.replyDock_eq_docked hv _)
  case room =>
    have ha' := (arrivalValid_iff a).mpr ha
    rintro hl c rfl
    refine ⟨fun hp => ?_, fun p hp hm => ?_⟩
    · have hn : planApplies (s.berth b).plan a.vesselId = false := by
        rcases hp with hp | ⟨p, v, hp, hpv, hne⟩
        · simp [planApplies, hp]
        · simp [planApplies, planMatches, hp, hpv, hne]
      have ho : openedCall a (s.berth b).plan s.clock.calendar s.now
          = (Call.opened a s.clock.calendar s.now).judgeOver := by
        rcases hp with hp | ⟨p, v, hp, hpv, hne⟩
        · simp [openedCall, hp]
        · simp [openedCall, planMatches, hp, hpv, hne]
      rw [hx, State.openCall_room ha' hl ho hn rfl]
      refine congrArg Host.Outcome.next (State.setCall_replyDock ?_ _)
      rw [State.withLog_call, hv]
      simp [callState, Call.judgeOver, Call.opened]
    · have hy : planMatches p a.vesselId = true := by rcases hm with hm | hm <;> simp [planMatches, hm]
      have ho : openedCall a (s.berth b).plan s.clock.calendar s.now
          = ((Call.opened a s.clock.calendar s.now).applyPlan p).judgeOver := by simp [openedCall, hp, hy]
      rw [hx, State.openCall_room ha' hl ho (by simp [planApplies, hp, hy] : _ = true) rfl, State.setCall_moved]
      · simp [State.setPlan, State.replyDock, State.latch, State.latchBerthEvent, Call.judgeOver, Call.applyPlan,
          Call.opened, callState, silenceMs, State.setBerth, State.berth, State.withBerths, State.withStation,
          State.withLog]
      · rw [State.withLog_call, hv]
        simp [callState, Call.judgeOver, Call.applyPlan, Call.opened]

/-! ## The silence deadline -/

/-- Settles O39: the move to SUSPENDED is a change of state, so it latches BERTH_EVENT. -/
theorem silenceDeadlineSuspendsTheCall : Obligations.SilenceDeadlineSuspendsTheCall := by
  unfold Obligations.SilenceDeadlineSuspendsTheCall
  intro s b c deadline hr hc hs hd hn
  refine ⟨congrArg Host.Outcome.next ?_, rfl, rfl⟩
  have hm : callState (s.call b) ≠ callState (some c.suspend) := by
    rw [hc]
    cases h : c.stage <;> simp [callState, Call.suspend, hs, h]
  rw [State.whenRunning_of hr]
  simp only [hc, hs, State.reached, hd, hn, decide_true, and_self, if_true]
  exact State.setCall_moved hm

/-! ## A message of a lane taken -/

/-- The oldest message of a kind and a lane is found past the others (R26, R28). -/
theorem takeMessage_append {l : LaneId} {m : Holding} {older : List (LaneId × Holding)} (h : (l, m) ∉ older)
    (younger : List (LaneId × Holding)) :
    takeMessage l m (older ++ (l, m) :: younger) = some (older ++ younger) := by
  induction older with
  | nil => simp [takeMessage]
  | cons x rest ih =>
    obtain ⟨hx, hrest⟩ := not_or.mp (mt List.mem_cons.mpr h)
    simp [takeMessage, Ne.symm hx, ih hrest]

/-- What taking it does to the berth. -/
theorem State.takeFromLane_of {s : State} {b : BerthId} {l : LaneId} {m : Holding} {c : Call}
    {older younger : List (LaneId × Holding)} (hc : s.call b = some c)
    (hf : c.inFlight = older ++ (l, m) :: younger) (hm : (l, m) ∉ older) :
    s.takeFromLane b l m
      = s.setCall b (some (({ c with inFlight := older ++ younger }.takeHolding m).closeIfEmpty)) := by
  simp [State.takeFromLane, hc, hf, takeMessage_append hm]

/-- Settles O41: the oldest message of the lane is found, taken, and R17 judged. -/
theorem berthTakesCommitsAndReleases : Obligations.BerthTakesCommitsAndReleases := by
  unfold Obligations.BerthTakesCommitsAndReleases
  intro s b l c older younger hr hc
  refine ⟨fun hf hm => ?release, fun hf hm => ?commit⟩
  case release =>
    rintro d rfl
    refine congrArg Host.Outcome.next ((State.whenRunning_of hr _).trans ?_)
    exact State.takeFromLane_of hc hf hm
  case commit =>
    rintro d rfl
    refine congrArg Host.Outcome.next ((State.whenRunning_of hr _).trans ?_)
    exact State.takeFromLane_of hc hf hm

/-! ## The station's orders to a berth -/

@[simp] theorem State.collect_call (s : State) (b : BerthId) : s.collect.call b = s.call b := rfl
@[simp] theorem State.collect_berth (s : State) (b : BerthId) : s.collect.berth b = s.berth b := rfl
@[simp] theorem State.collect_now (s : State) : s.collect.now = s.now := rfl
@[simp] theorem State.collect_landing (s : State) : s.collect.station.landing = s.station.landing := rfl

/-- A command that its owner answers without a change. -/
theorem State.onStation_answered {α : Type} {s : State} (h : s.keep.run = .running) {cmd : Command} {a : α}
    {f : α → State → State × Answer} (x : Answer) (hf : f a s.collect = (s.collect, x)) :
    s.onStation cmd (.fit a) f = s.answered (x.reply cmd) := by
  rw [State.onStation_fit h, hf]
  rfl

/-- A command that sets a berth. -/
theorem State.onStation_setBerth {α : Type} {s : State} (h : s.keep.run = .running) {cmd : Command} {a : α}
    {f : α → State → State × Answer} {b : BerthId} {y : Berth} (x : Answer)
    (hf : f a s.collect = (s.collect.setBerth b y, x)) :
    s.onStation cmd (.fit a) f = (s.setBerth b y).answered (x.reply cmd) := by
  rw [State.onStation_fit h, hf]
  rfl

/-- A command that sets a berth record (R33 to R35): BERTH_EVENT and the reply need no order. -/
theorem State.onStation_setCall {α : Type} {s : State} (h : s.keep.run = .running) {cmd : Command} {a : α}
    {f : α → State → State × Answer} {b : BerthId} {c : Option Call} (x : Answer)
    (hf : f a s.collect = (s.collect.setCall b c, x)) :
    s.onStation cmd (.fit a) f = (s.setCall b c).answered (x.reply cmd) := by
  rw [State.onStation_fit h, hf, State.setCall_eq, State.setCall_eq]
  rfl

theorem onBerthCode_some {code : Nat} {b : BerthId} (h : BerthId.ofCode code = some b) (s : State)
    (f : BerthId → State × Answer) : onBerthCode code s f = f b := by simp [onBerthCode, h]

theorem onBerthCode_none {code : Nat} (h : BerthId.ofCode code = none) (s : State)
    (f : BerthId → State × Answer) : onBerthCode code s f = (s, .no .badArgument) := by simp [onBerthCode, h]

/-- SET_CAP at an open call (R33). -/
theorem State.takeSetCap_open {s : State} {b : BerthId} {c : Call} (hc : s.call b = some c) {cap : Nat}
    (h1 : 1 ≤ cap) (h2 : cap ≤ 900) :
    s.takeSetCap b cap = (s.setCall b (some (c.setCap cap)), .ok (.cap (min cap c.declaredCap))) := by
  simp only [State.takeSetCap, (within_iff 1 900 cap).mpr ⟨h1, h2⟩, hc, if_true]
  rfl

theorem State.takeSetCap_vacant {s : State} {b : BerthId} (hc : s.call b = none) {cap : Nat}
    (h1 : 1 ≤ cap) (h2 : cap ≤ 900) : s.takeSetCap b cap = (s, .no .wrongState) := by
  simp only [State.takeSetCap, (within_iff 1 900 cap).mpr ⟨h1, h2⟩, hc, if_true]

theorem State.takeSetCap_bad (s : State) (b : BerthId) {cap : Nat} (h : ¬ (1 ≤ cap ∧ cap ≤ 900)) :
    s.takeSetCap b cap = (s, .no .badArgument) := by
  simp [State.takeSetCap, within, h]

/-- CLOSE_BERTH at a call that is not past its closing (R16, R34). -/
theorem State.takeClose_open {s : State} {b : BerthId} {c d : Call} (hc : s.call b = some c)
    (hg : c.stage = .alighting ∨ c.stage = .boarding)
    (hd : (if c.suspended then c.closeSuspended s.now s.station.landing.closingGrace
      else c.close s.now s.station.landing.closingGrace) = d) :
    s.takeClose b = (s.setCall b (some d), .ok (.berthState (callState (some d)))) := by
  subst hd
  rcases hg with hg | hg <;> simp [State.takeClose, hc, hg]

theorem State.takeClose_late {s : State} {b : BerthId} {c : Call} (hc : s.call b = some c)
    (hg : c.stage = .closing ∨ c.stage = .handover) : s.takeClose b = (s, .no .wrongState) := by
  rcases hg with hg | hg <;> simp [State.takeClose, hc, hg]

/-- REOPEN_BERTH by the stage of the call (R35). -/
theorem State.takeReopen_closing {s : State} {b : BerthId} {c : Call} (hc : s.call b = some c)
    (hg : c.stage = .closing) :
    s.takeReopen b = (s.setCall b (some { c with stage := .boarding, closingDeadline := none }), .yes) := by
  simp [State.takeReopen, hc, hg]

theorem State.takeReopen_other {s : State} {b : BerthId} {c : Call} (hc : s.call b = some c)
    (hg : c.stage ≠ .closing) : s.takeReopen b = (s, .no .wrongState) := by
  cases h : c.stage
  case closing => exact absurd h hg
  all_goals simp [State.takeReopen, hc, h]

/-- Settles O51, by the command, the berth code and the state of the berth. -/
theorem stationOrdersABerth : Obligations.StationOrdersABerth := by
  unfold Obligations.StationOrdersABerth
  intro s code hr
  refine ⟨fun hb => ?none, fun b hb => ?some⟩
  case none =>
    refine ⟨fun p => ?_, ?_, fun cap => ?_, ?_, ?_⟩ <;>
      exact congrArg Host.Outcome.next (State.onStation_answered hr (.no .badArgument) (onBerthCode_none hb _ _))
  case some =>
    have he (f : BerthId → State × Answer) : onBerthCode code s.collect f = f b := onBerthCode_some hb _ f
    refine ⟨fun p => ⟨fun hp => ?_, fun hp => ?_⟩, ?_, fun cap hcap => ?_, fun hc => ?vacant, fun c hc => ?_⟩
    · exact congrArg Host.Outcome.next (State.onStation_setBerth hr .yes ((he _).trans (if_pos hp)))
    · exact congrArg Host.Outcome.next
        (State.onStation_answered hr (.no .badArgument) ((he _).trans (if_neg (by simp [hp]))))
    · exact congrArg Host.Outcome.next (State.onStation_setBerth hr .yes (he _))
    · exact congrArg Host.Outcome.next
        (State.onStation_answered hr (.no .badArgument) ((he _).trans (State.takeSetCap_bad _ _ hcap)))
    case vacant =>
      refine ⟨fun cap h1 h2 => ?_, ?_, ?_⟩ <;>
        refine congrArg Host.Outcome.next (State.onStation_answered hr (.no .wrongState) ((he _).trans ?_))
      · exact State.takeSetCap_vacant (s := s.collect) hc h1 h2
      · simp only [State.takeClose, State.collect_call, hc]
      · simp only [State.takeReopen, State.collect_call, hc]
    refine ⟨fun cap h1 h2 => ?_, fun hg => ?_, ?close, fun hg => ?_, fun hg => ?_⟩
    · exact congrArg Host.Outcome.next (State.onStation_setCall hr (.ok (.cap (min cap c.declaredCap)))
        ((he _).trans (State.takeSetCap_open (s := s.collect) hc h1 h2)))
    · exact congrArg Host.Outcome.next
        (State.onStation_answered hr (.no .wrongState) ((he _).trans (State.takeClose_late hc hg)))
    case close =>
      rintro hg d rfl
      refine ⟨fun hs => congrArg Host.Outcome.next (State.onStation_setCall hr (.ok (.berthState .suspended)) ?_),
        fun hs h0 => congrArg Host.Outcome.next (State.onStation_setCall hr (.ok (.berthState .closing)) ?_),
        fun hs h0 => congrArg Host.Outcome.next (State.onStation_setCall hr (.ok (.berthState .handover)) ?_)⟩ <;>
        rw [he, State.takeClose_open (s := s.collect) hc hg rfl]
      · simp [hs, Call.closeSuspended, Call.graceMs, callState]
      · simp [hs, h0, Call.close, Call.graceMs, callState]
      · simp [hs, h0, Call.close, callState]
    · exact congrArg Host.Outcome.next
        (State.onStation_setCall hr .yes ((he _).trans (State.takeReopen_closing hc hg)))
    · exact congrArg Host.Outcome.next
        (State.onStation_answered hr (.no .wrongState) ((he _).trans (State.takeReopen_other hc hg)))

end Sys2Proof.Machine
end

section
/-!
PROOF. A decision's claims (R25, R120 to R126): the charge, the held use, the log slot and the place, granted or given
back.
-/
namespace Sys2Proof.Machine

/-! ## A refusal while no TAKE is held -/

/-- A REFUSE without a record (R125). -/
theorem State.decideRefuse_unlogged {s : State} {l : LaneId} (h : (s.lane l).takeHeld = false)
    (hl : s.station.landing.logRefusals = false) (p : Progress) (r : Reason) :
    s.decideRefuse l p r none = s.refusing l p r := by
  rw [State.decideRefuse_of h]
  simp only [hl, Bool.false_eq_true, if_false]
  rfl

/-- A REFUSE with its record, for a reason other than LOG_FULL (R125, R126). -/
theorem State.decideRefuse_logged {s : State} {l : LaneId} (h : (s.lane l).takeHeld = false)
    (hl : s.station.landing.logRefusals = true) (p : Progress) {r : Reason} (hr : r ≠ .logFull) :
    s.decideRefuse l p r none
      = (s.refusing l p r).askedThen [.refusal p.arrival.calendar l p.token.id r none] := by
  rw [State.decideRefuse_of h]
  simp only [hl, if_true]
  show (s.refusing l p r).askRefusal r _ = _
  simp only [State.askRefusal, State.askedThen, State.takeAsked, List.foldl_append, List.foldl_cons, List.foldl_nil]

/-- A REFUSE for LOG_FULL: its record is asked for (R126, log 34). -/
theorem State.decideRefuse_logFull {s : State} {l : LaneId} (h : (s.lane l).takeHeld = false)
    (hl : s.station.landing.logRefusals = true) (p : Progress) :
    s.decideRefuse l p .logFull none = (s.refusing l p .logFull).withAsked
      (s.asked ++ [.refusal p.arrival.calendar l p.token.id .logFull none]) := by
  rw [State.decideRefuse_of h]
  simp only [hl, if_true]
  rfl

/-- The charge is refused for the balance alone (R101). -/
theorem chargeOf_error {e : Evaluation} {t : List TapEntry} {r : Reason} (h : chargeOf e t = .error r) :
    r ≠ .logFull := by
  unfold chargeOf at h
  repeat' split at h
  all_goals cases h
  all_goals simp

/-- The held use is refused PASSBACK or TABLE_FULL (R134, R135). -/
theorem tapClaim_error {t : List TapEntry} {token : TokenRecord} {base : Nat} {r : Reason}
    (h : tapClaim t token base = .error r) : r ≠ .logFull := by
  unfold tapClaim at h
  repeat' split at h
  all_goals cases h
  all_goals simp

/-! ## The claims one after another -/

theorem State.decideClaims_charge {s : State} {l : LaneId} {e : Evaluation} {flags : DenyFlags} {r : Reason}
    (h : chargeOf e s.taps = .error r) :
    s.decideClaims l e flags = s.decideRefuse l (e.progress flags) r none := by
  simp [State.decideClaims, h]

theorem State.decideClaims_use {s : State} {l : LaneId} {e : Evaluation} {flags : DenyFlags} {r : Reason}
    {charge : Nat × FareClass} (h : chargeOf e s.taps = .ok charge) (hu : tapClaim s.taps e.token e.base = .error r) :
    s.decideClaims l e flags = s.decideRefuse l (e.progress flags) r none := by
  simp [State.decideClaims, h, hu]

theorem State.decideClaims_slot {s : State} {l : LaneId} {e : Evaluation} {flags : DenyFlags} {taps : List TapEntry}
    {charge : Nat × FareClass} (h : chargeOf e s.taps = .ok charge) (hu : tapClaim s.taps e.token e.base = .ok taps)
    (hl : ¬ s.log.reserve < 1024 - s.log.records.length) :
    s.decideClaims l e flags
      = (s.withTaps (tapRelease taps e.token.id)).decideRefuse l (e.progress flags) .logFull none := by
  simp [State.decideClaims, h, hu, TripLog.reserveSlot_full hl, State.releaseUse]

theorem State.decideClaims_place {s : State} {l : LaneId} {e : Evaluation} {flags : DenyFlags} {taps : List TapEntry}
    {charge : Nat} {cls : FareClass} (h : chargeOf e s.taps = .ok (charge, cls))
    (hu : tapClaim s.taps e.token e.base = .ok taps) (hl : s.log.reserve < 1024 - s.log.records.length) :
    s.decideClaims l e flags
      = ((s.withTaps taps).withLog { s.log with reserve := s.log.reserve + 1 }).decidePlace l e
          (e.offer flags charge cls s.station.landing.landingId) := by
  simp [State.decideClaims, h, hu, TripLog.reserveSlot_room hl]

/-- A refused place gives back the log slot and the held use (R123): with the call as the claim left it. -/
theorem State.decidePlace_refused {s : State} {l : LaneId} {b : BerthId} {e : Evaluation} {o : Offer} {t : State}
    {r : Reason} (hb : (s.lane l).role.boards = some b) (hc : s.claimPlace b l = (t, some r)) :
    s.decidePlace l e o = (t.releaseSlot.releaseUse e.token.id).decideRefuse l (e.progress o.flags) r none := by
  simp [State.decidePlace, hb, hc]

theorem State.decidePlace_granted {s : State} {l : LaneId} {b : BerthId} {e : Evaluation} {o : Offer} {t : State}
    (hb : (s.lane l).role.boards = some b) (hc : s.claimPlace b l = (t, none)) :
    s.decidePlace l e o = t.decideOffer l o := by
  simp [State.decidePlace, hb, hc]

/-- A place claimed at a BOARDING berth with room (R25, log 8). -/
theorem State.claimPlace_room {s : State} {b : BerthId} {l : LaneId} {c0 c : Call} (hc0 : s.call b = some c0)
    (hs : c0.suspended = false) (hg : c0.stage = .boarding) (hc : c = c0.takeWhere fun k => decide (k = l))
    (hr : c.onBoard + c.reserved < c.effectiveCap) :
    s.claimPlace b l = (s.setCall b (some { c with reserved := c.reserved + 1 }), none) := by
  subst hc
  simp [State.claimPlace, hc0, admissionRefusal, hs, hg, Call.hasRoom, hr]

/-- A place claimed at a BOARDING berth without room (R25). -/
theorem State.claimPlace_full {s : State} {b : BerthId} {l : LaneId} {c0 c : Call} (hc0 : s.call b = some c0)
    (hs : c0.suspended = false) (hg : c0.stage = .boarding) (hc : c = c0.takeWhere fun k => decide (k = l))
    (hr : c.effectiveCap ≤ c.onBoard + c.reserved) :
    s.claimPlace b l = (s.setCall b (some c), some .full) := by
  subst hc
  simp [State.claimPlace, hc0, admissionRefusal, hs, hg, Call.hasRoom, Nat.not_lt.mpr hr]

/-- A place claimed at a berth that does not admit (R24). -/
theorem State.claimPlace_closed {s : State} {b : BerthId} {r : Reason} (l : LaneId)
    (h : admissionRefusal (s.call b) = some r) : s.claimPlace b l = (s, some r) := by
  simp [State.claimPlace, h]

/-- The reason a berth that does not admit gives (R24). -/
theorem admissionRefusal_of {o : Option Call} {r : Reason}
    (h : (o = none ∧ r = .notBoarding) ∨ ∃ c, o = some c
      ∧ ((c.suspended = true ∧ r = .linkLost) ∨ (c.suspended = false ∧ c.stage = .alighting ∧ r = .notBoarding)
        ∨ (c.suspended = false ∧ (c.stage = .closing ∨ c.stage = .handover) ∧ r = .closed))) :
    admissionRefusal o = some r ∧ r ≠ .logFull := by
  rcases h with ⟨rfl, rfl⟩ | ⟨c, rfl, ⟨hs, rfl⟩ | ⟨hs, hg, rfl⟩ | ⟨hs, hg | hg, rfl⟩⟩
  · simp [admissionRefusal]
  all_goals simp [admissionRefusal, *]

/-- The claims of the log slot and of the use given back (R123). -/
theorem State.giveBack (s : State) (taps : List TapEntry) (id : TokenId) :
    (((s.withTaps taps).withLog { s.log with reserve := s.log.reserve + 1 }).releaseSlot).releaseUse id
      = s.withTaps (tapRelease taps id) := rfl

/-- The same past a change of the call. -/
theorem State.setCall_giveBack (s : State) (b : BerthId) (c : Option Call) (taps : List TapEntry) (id : TokenId) :
    ((((s.withTaps taps).withLog { s.log with reserve := s.log.reserve + 1 }).setCall b c).releaseSlot).releaseUse id
      = (s.withTaps (tapRelease taps id)).setCall b c := by
  simp only [State.setCall_eq]
  rfl

/-- A change of a call leaves what a lane's decision reads of the station port. -/
@[simp] theorem State.setCall_landing (s : State) (b : BerthId) (c : Option Call) :
    (s.setCall b c).station.landing = s.station.landing := (s.setCall_quiet b c).landing

/-- Settles O25, by the claim that is refused. -/
theorem boardingDecisionClaimsAPlaceOrGivesAllBack : Obligations.BoardingDecisionClaimsAPlaceOrGivesAllBack := by
  unfold Obligations.BoardingDecisionClaimsAPlaceOrGivesAllBack
  refine ⟨?chargeOrUse, ?slot, ?place⟩
  case chargeOrUse =>
    rintro s l e flags t r ht hr rfl
    have hne : r ≠ .logFull := by
      rcases hr with hr | ⟨_, _, hr⟩
      · exact chargeOf_error hr
      · exact tapClaim_error hr
    have hd : s.decideClaims l e flags = s.decideRefuse l (e.progress flags) r none := by
      rcases hr with hr | ⟨_, hk, hr⟩
      · exact State.decideClaims_charge hr
      · exact State.decideClaims_use hk hr
    rw [hd]
    exact ⟨fun hl => State.decideRefuse_unlogged ht hl _ r, fun hl => State.decideRefuse_logged ht hl _ hne⟩
  case slot =>
    rintro s l e flags charge taps t ht hk hu hl rfl
    rw [State.decideClaims_slot hk hu hl]
    exact ⟨fun hg => State.decideRefuse_unlogged (s := s.withTaps (tapRelease taps e.token.id)) ht hg _ _,
      fun hg => State.decideRefuse_logFull (s := s.withTaps (tapRelease taps e.token.id)) ht hg _⟩
  case place =>
    intro s l b e flags charge cls taps hb ht hk hu hl
    rw [State.decideClaims_place hk hu hl]
    generalize hs' : (s.withTaps taps).withLog { s.log with reserve := s.log.reserve + 1 } = s'
    have hb' : (s'.lane l).role.boards = some b := hs' ▸ hb
    have hcall : s'.call b = s.call b := by subst hs'; rfl
    refine ⟨fun c0 c hc0 hs hg hc => ⟨fun hr => ?granted, fun hr t htt => ?full⟩, fun r t hr htt => ?closed⟩
    case granted =>
      rw [State.decidePlace_granted hb' (State.claimPlace_room (hcall.trans hc0) hs hg hc hr),
        State.decideOffer_of (by subst hs'; simpa using ht)]
      subst hs'
      simp
    case full =>
      rw [State.decidePlace_refused hb' (State.claimPlace_full (hcall.trans hc0) hs hg hc hr), ← hs',
        State.setCall_giveBack]
      subst htt
      constructor
      · intro hg
        rw [State.decideRefuse_unlogged (by simpa using ht) (by simpa using hg)]
        simp [State.refusing]
        rfl
      · intro hg
        rw [State.decideRefuse_logged (by simpa using ht) (by simpa using hg) _ (by simp)]
        simp [State.refusing]
        rfl
    case closed =>
      obtain ⟨ha, hne⟩ := admissionRefusal_of hr
      rw [State.decidePlace_refused hb' (State.claimPlace_closed l (hcall ▸ ha)), ← hs', State.giveBack]
      subst htt
      exact ⟨fun hg => State.decideRefuse_unlogged (s := s.withTaps (tapRelease taps e.token.id)) ht hg _ r,
        fun hg => State.decideRefuse_logged (s := s.withTaps (tapRelease taps e.token.id)) ht hg _ hne⟩

end Sys2Proof.Machine
end

section
/-!
PROOF. The holdings of lanes given back (R7, R49, R62, R64): what a drop, a void and a release of holdings do to the
lanes, the trip log, the recent-tap table and the messages in flight, said once for each operation.
-/
namespace Sys2Proof.Machine

/-! ## The log after appends and releases -/

theorem numbered_append (n : BitVec 16) (cs ds : List Content) :
    numbered n (cs ++ ds) = numbered n cs ++ numbered (n + BitVec.ofNat 16 cs.length) ds := by
  induction cs generalizing n with
  | nil => simp [numbered]
  | cons c rest ih =>
    simp only [List.cons_append, numbered, ih, List.length_cons, Nat.add_comm rest.length 1, BitVec.ofNat_add,
      BitVec.add_assoc]
    rfl

theorem numbered_length (n : BitVec 16) (cs : List Content) : (numbered n cs).length = cs.length := by
  induction cs generalizing n with
  | nil => rfl
  | cons c rest ih => simp [numbered, ih]

theorem TripLog.afterAppends_none (g : TripLog) : g.afterAppends [] 0 = g := by simp [TripLog.afterAppends, numbered]

/-- Appends and releases one batch after another are one batch. -/
theorem TripLog.afterAppends_afterAppends (g : TripLog) (cs ds : List Content) (m n : Nat) :
    (g.afterAppends cs m).afterAppends ds n = g.afterAppends (cs ++ ds) (m + n) := by
  simp only [TripLog.afterAppends, numbered_append, List.append_assoc, List.length_append, BitVec.ofNat_add,
    BitVec.add_assoc]
  congr 1
  omega

theorem TripLog.appendReserved_eq (g : TripLog) (c : Content) : g.appendReserved c = g.afterAppends [c] 0 := rfl

theorem TripLog.releaseSlot_eq (g : TripLog) : g.releaseSlot = g.afterAppends [] 1 := by
  simp [TripLog.releaseSlot, TripLog.afterAppends, numbered]

theorem TripLog.afterAppends_length (g : TripLog) (cs : List Content) (n : Nat) :
    (g.afterAppends cs n).records.length = g.records.length + cs.length := by
  simp [TripLog.afterAppends, numbered_length]

/-! ## What giving holdings back does outside the lanes -/

/-- A berth whose open call has further messages in flight. -/
def Berth.joined (x : Berth) (ms : List (LaneId × Holding)) : Berth :=
  { x with call := x.call.map fun c => { c with inFlight := c.inFlight ++ ms } }

theorem Berth.joined_nil (x : Berth) : x.joined [] = x := by
  obtain ⟨call, plan, reply⟩ := x
  cases call <;> simp [Berth.joined]

theorem Berth.joined_joined (x : Berth) (ms ns : List (LaneId × Holding)) :
    (x.joined ms).joined ns = x.joined (ms ++ ns) := by
  obtain ⟨call, plan, reply⟩ := x
  cases call <;> simp [Berth.joined]

/-- From `s` to `t` holdings were given back: `contents` were appended into their slots, `slots` further slots and the
uses of `tokens` released, and releases are on their way to the berths. The lanes apart, nothing else changed. -/
structure GaveBack (contents : List Content) (slots : Nat) (tokens : List TokenId) (s t : State) : Prop where
  log : t.log = s.log.afterAppends contents slots
  taps : t.taps = tokens.foldl tapRelease s.taps
  berth : ∀ k, ∃ ms, (∀ m ∈ ms, m.2 = Holding.release) ∧ t.berth k = (s.berth k).joined ms
  clock : t.clock = s.clock
  keep : t.keep = s.keep
  fare : t.fare = s.fare
  deny : t.deny = s.deny
  port : t.port = s.port
  station : t.station = s.station

/-- No message joins. -/
theorem Berth.joined_none {s t : State} (h : t.berths = s.berths) (k : BerthId) :
    ∃ ms, (∀ m ∈ ms, m.2 = Holding.release) ∧ t.berth k = (s.berth k).joined ms :=
  ⟨[], by simp, by rw [Berth.joined_nil, State.berth, h]; rfl⟩

namespace GaveBack

theorem refl (s : State) : GaveBack [] 0 [] s s :=
  ⟨s.log.afterAppends_none.symm, rfl, Berth.joined_none rfl, rfl, rfl, rfl, rfl, rfl, rfl⟩

theorem trans {cs ds : List Content} {m n : Nat} {is js : List TokenId} {s t u : State} (h : GaveBack cs m is s t)
    (k : GaveBack ds n js t u) : GaveBack (cs ++ ds) (m + n) (is ++ js) s u := by
  refine ⟨?_, ?_, fun b => ?_, k.clock.trans h.clock, k.keep.trans h.keep, k.fare.trans h.fare, k.deny.trans h.deny,
    k.port.trans h.port, k.station.trans h.station⟩
  · rw [k.log, h.log, TripLog.afterAppends_afterAppends]
  · rw [k.taps, h.taps, List.foldl_append]
  · obtain ⟨ms, hms, hm⟩ := h.berth b
    obtain ⟨ns, hns, hn⟩ := k.berth b
    refine ⟨ms ++ ns, fun x hx => ?_, by rw [hn, hm, Berth.joined_joined]⟩
    rcases List.mem_append.mp hx with hx | hx
    · exact hms x hx
    · exact hns x hx

end GaveBack

theorem State.updLane_gaveBack (s : State) (l : LaneId) (f : Lane → Lane) : GaveBack [] 0 [] s (s.updLane l f) :=
  ⟨s.log.afterAppends_none.symm, rfl, Berth.joined_none rfl, rfl, rfl, rfl, rfl, rfl, rfl⟩

theorem State.appendReserved_gaveBack (s : State) (c : Content) : GaveBack [c] 0 [] s (s.appendReserved c) :=
  ⟨rfl, rfl, Berth.joined_none rfl, rfl, rfl, rfl, rfl, rfl, rfl⟩

theorem State.releaseSlot_gaveBack (s : State) : GaveBack [] 1 [] s s.releaseSlot :=
  ⟨s.log.releaseSlot_eq, rfl, Berth.joined_none rfl, rfl, rfl, rfl, rfl, rfl, rfl⟩

theorem State.releaseUse_gaveBack (s : State) (id : TokenId) : GaveBack [] 0 [id] s (s.releaseUse id) :=
  ⟨s.log.afterAppends_none.symm, rfl, Berth.joined_none rfl, rfl, rfl, rfl, rfl, rfl, rfl⟩

/-- A release sent joins the messages of its berth's open call (R7). -/
theorem State.sendHolding_berth (s : State) (b : BerthId) (l : LaneId) (m : Holding) :
    s.sendHolding (some b) l m = s.setBerth b ((s.berth b).joined [(l, m)]) := by
  cases hc : s.call b with
  | none =>
    have hb : (s.berth b).joined [(l, m)] = s.berth b := by
      have hc' : (s.berth b).call = none := hc
      simp only [Berth.joined, hc', Option.map_none]
      rw [← hc']
    rw [hb, State.setBerth_self]
    exact State.sendBerth_none hc l m
  | some c =>
    have hc' : (s.berth b).call = some c := hc
    rw [show s.sendHolding (some b) l m = _ from State.sendBerth_some hc l m]
    simp only [Berth.joined, hc', Option.map_some, Call.send]

theorem State.sendHolding_gaveBack (s : State) (b : Option BerthId) (l : LaneId) :
    GaveBack [] 0 [] s (s.sendHolding b l .release) := by
  cases b with
  | none => exact .refl s
  | some b =>
    rw [State.sendHolding_berth]
    refine ⟨s.log.afterAppends_none.symm, rfl, fun k => ?_, rfl, rfl, rfl, rfl, rfl, rfl⟩
    by_cases e : k = b
    · subst e
      exact ⟨[(l, .release)], by simp, s.setBerth_berth k _⟩
    · exact ⟨[], by simp, by rw [s.setBerth_other _ e, Berth.joined_nil]⟩

/-- A message sent leaves every other berth. -/
theorem State.sendHolding_berth_other (s : State) {b : Option BerthId} {k : BerthId} (h : b ≠ some k) (l : LaneId)
    (m : Holding) : (s.sendHolding b l m).berth k = s.berth k := by
  cases b with
  | none => rfl
  | some b => rw [State.sendHolding_berth, State.setBerth_other _ _ fun e => h (by rw [e])]

/-! ## One lane's holdings ended -/

/-- A lane without its offer (R49). -/
def Lane.dropped (x : Lane) : Lane :=
  { x with
    ctx := if x.ctx.isOffer then .free else x.ctx
    takeDeadline := if x.ctx.isOffer then none else x.takeDeadline
    stats := { x.stats with offersDropped := bumpBy x.ctx.offers x.stats.offersDropped } }

/-- A lane without its entries (R62). -/
def Lane.voided (x : Lane) : Lane :=
  { x with entries := [], stats := { x.stats with voided := bumpBy x.entries.length x.stats.voided } }

theorem Lane.dropped_offer {x : Lane} {o : Offer} (h : x.ctx = .offer o) :
    x.dropped = { x with ctx := .free, takeDeadline := none,
                         stats := { x.stats with offersDropped := bump x.stats.offersDropped } } := by
  simp [Lane.dropped, h, Context.isOffer, Context.offers, bumpBy]

theorem Context.offers_of_not_offer : ∀ {c : Context}, c.isOffer = false → c.offers = 0
  | .free, _ | .waiting _ _, _ | .refused _, _ => rfl

theorem Lane.dropped_none {x : Lane} (h : x.ctx.isOffer = false) : x.dropped = x := by
  simp [Lane.dropped, h, Context.offers_of_not_offer h, bumpBy]

@[simp] theorem Lane.dropped_entries (x : Lane) : x.dropped.entries = x.entries := rfl
@[simp] theorem Lane.dropped_role (x : Lane) : x.dropped.role = x.role := rfl
@[simp] theorem Lane.voided_entries (x : Lane) : x.voided.entries = [] := rfl

theorem Lane.dropped_offers (x : Lane) : x.dropped.ctx.offers = 0 := by
  unfold Lane.dropped
  cases h : x.ctx <;> simp [Context.isOffer, Context.offers]

/-- A lane whose holdings are ended holds nothing. -/
theorem Lane.dropped_voided_holdings (x : Lane) : x.dropped.voided.holdings = 0 := by
  show x.dropped.ctx.offers + 0 = 0
  rw [x.dropped_offers]

/-! ## A drop -/

theorem State.dropOffer_lane (s : State) {l : LaneId} {o : Offer} (h : (s.lane l).ctx = .offer o) :
    (s.dropOffer l o).lane l = (s.lane l).dropped := by
  unfold State.dropOffer
  dsimp only
  rw [State.sendHolding_lane, State.updLane_lane, Lane.dropped_offer h]
  rfl

theorem State.dropOffer_other (s : State) {k l : LaneId} (o : Offer) (h : k ≠ l) :
    (s.dropOffer l o).lane k = s.lane k := by
  unfold State.dropOffer
  dsimp only
  rw [State.sendHolding_lane, State.updLane_other _ _ h]
  rfl

theorem State.dropOffer_gaveBack (s : State) (l : LaneId) (o : Offer) :
    GaveBack [] 1 [o.tokenId] s (s.dropOffer l o) :=
  (((s.releaseUse_gaveBack o.tokenId).trans (State.releaseSlot_gaveBack _)).trans
    (State.updLane_gaveBack _ l _)).trans (State.sendHolding_gaveBack _ _ l)

theorem State.dropOffer_berth_other (s : State) {l : LaneId} {b : BerthId} (o : Offer)
    (h : (s.lane l).role.boards ≠ some b) : (s.dropOffer l o).berth b = s.berth b :=
  State.sendHolding_berth_other _ h l _

theorem State.dropIfOffer_lane (s : State) (l : LaneId) : (s.dropIfOffer l).lane l = (s.lane l).dropped := by
  cases h : (s.lane l).ctx <;> simp only [State.dropIfOffer, h]
  case offer o => exact s.dropOffer_lane h
  all_goals exact (Lane.dropped_none (by rw [h]; rfl)).symm

theorem State.dropIfOffer_other (s : State) {k l : LaneId} (h : k ≠ l) : (s.dropIfOffer l).lane k = s.lane k := by
  unfold State.dropIfOffer
  split
  · exact s.dropOffer_other _ h
  all_goals rfl

/-- The token of a lane's offer. -/
def Context.offerTokens : Context → List TokenId
  | .offer o => [o.tokenId]
  | .free | .waiting _ _ | .refused _ => []

theorem Context.offerTokens_of_none : ∀ {c : Context}, c.offers = 0 → c.offerTokens = []
  | .free, _ | .waiting _ _, _ | .refused _, _ => rfl

theorem Lane.heldTokens_eq (x : Lane) : x.heldTokens = x.ctx.offerTokens ++ x.entries.map (·.tokenId) := by
  unfold Lane.heldTokens Context.offerTokens
  cases x.ctx <;> rfl

theorem State.dropIfOffer_gaveBack (s : State) (l : LaneId) :
    GaveBack [] (s.lane l).ctx.offers (s.lane l).ctx.offerTokens s (s.dropIfOffer l) := by
  cases h : (s.lane l).ctx <;> simp only [State.dropIfOffer, h]
  case offer o => exact s.dropOffer_gaveBack l o
  all_goals exact .refl s

theorem State.dropIfOffer_berth_other (s : State) {l : LaneId} {b : BerthId} (h : (s.lane l).role.boards ≠ some b) :
    (s.dropIfOffer l).berth b = s.berth b := by
  unfold State.dropIfOffer
  split
  · exact s.dropOffer_berth_other _ h
  all_goals rfl

/-! ## A void -/

@[simp] theorem State.releaseUse_lane (s : State) (id : TokenId) (l : LaneId) :
    (s.releaseUse id).lane l = s.lane l := rfl
@[simp] theorem State.appendReserved_lane (s : State) (c : Content) (l : LaneId) :
    (s.appendReserved c).lane l = s.lane l := rfl

theorem State.voidEntry_lane (s : State) (l : LaneId) (e : Entry) (rest : List Entry) (r : VoidReason) :
    (s.voidEntry l e rest r).lane l
      = { s.lane l with
          entries := rest, stats := { (s.lane l).stats with voided := bump (s.lane l).stats.voided } } := by
  unfold State.voidEntry
  dsimp only
  rw [State.sendHolding_lane, State.releaseUse_lane, State.appendReserved_lane, State.updLane_lane]

theorem State.voidEntry_other (s : State) {k l : LaneId} (e : Entry) (rest : List Entry) (r : VoidReason) (h : k ≠ l) :
    (s.voidEntry l e rest r).lane k = s.lane k := by
  unfold State.voidEntry
  dsimp only
  rw [State.sendHolding_lane, State.releaseUse_lane, State.appendReserved_lane, State.updLane_other _ _ h]

theorem State.voidEntry_gaveBack (s : State) (l : LaneId) (e : Entry) (rest : List Entry) (r : VoidReason) :
    GaveBack [e.voidContent l s.clock.calendar r] 0 [e.tokenId] s (s.voidEntry l e rest r) :=
  (((s.updLane_gaveBack l _).trans (State.appendReserved_gaveBack _ _)).trans (State.releaseUse_gaveBack _ _)).trans
    (State.sendHolding_gaveBack _ _ l)

theorem State.voidEntry_berth_other (s : State) (l : LaneId) {e : Entry} {b : BerthId} (h : e.berth ≠ some b)
    (rest : List Entry) (r : VoidReason) : (s.voidEntry l e rest r).berth b = s.berth b :=
  State.sendHolding_berth_other _ h l _

theorem State.voidList_lane (l : LaneId) (r : VoidReason) (es : List Entry) (s : State)
    (h : (s.lane l).entries = es) : (s.voidList l r es).lane l = (s.lane l).voided := by
  induction es generalizing s with
  | nil =>
    show s.lane l = _
    simp only [Lane.voided, h, List.length_nil, bumpBy]
    rw [← h]
  | cons e rest ih =>
    show ((s.voidEntry l e rest r).voidList l r rest).lane l = _
    rw [ih _ (s.voidEntry_entries l e rest r), s.voidEntry_lane]
    simp only [Lane.voided, h, List.length_cons, bumpBy]

theorem State.voidList_other {k l : LaneId} (r : VoidReason) (es : List Entry) (s : State) (h : k ≠ l) :
    (s.voidList l r es).lane k = s.lane k := by
  induction es generalizing s with
  | nil => rfl
  | cons e rest ih => exact (ih _).trans (s.voidEntry_other e rest r h)

theorem State.voidList_gaveBack (l : LaneId) (r : VoidReason) (es : List Entry) (s : State) :
    GaveBack (es.map fun e => e.voidContent l s.clock.calendar r) 0 (es.map (·.tokenId)) s (s.voidList l r es) := by
  induction es generalizing s with
  | nil => exact .refl s
  | cons e rest ih =>
    have h1 := s.voidEntry_gaveBack l e rest r
    have h2 := ih (s.voidEntry l e rest r)
    rw [h1.clock] at h2
    exact h1.trans h2

theorem State.voidList_berth_other (l : LaneId) (r : VoidReason) {b : BerthId} (es : List Entry) (s : State)
    (h : ∀ e ∈ es, e.berth ≠ some b) : (s.voidList l r es).berth b = s.berth b := by
  induction es generalizing s with
  | nil => rfl
  | cons e rest ih =>
    exact (ih _ fun x hx => h x (List.mem_cons_of_mem _ hx)).trans
      (s.voidEntry_berth_other l (h e (List.mem_cons_self ..)) rest r)

/-! ## A lane's holdings, and a berth's -/

theorem State.endHoldings_lane (s : State) (l : LaneId) (r : VoidReason) :
    (s.endHoldings l r).lane l = (s.lane l).dropped.voided := by
  unfold State.endHoldings State.voidAll
  rw [State.voidList_lane l r _ _ rfl, State.dropIfOffer_lane]

theorem State.endHoldings_other (s : State) {k l : LaneId} (r : VoidReason) (h : k ≠ l) :
    (s.endHoldings l r).lane k = s.lane k :=
  (State.voidList_other r _ _ h).trans (s.dropIfOffer_other h)

/-- A lane's holdings ended (R64): its entries' VOID records, its offer's slot, its tokens' uses. -/
theorem State.endHoldings_gaveBack (s : State) (l : LaneId) (r : VoidReason) :
    GaveBack ((s.lane l).entries.map fun e => e.voidContent l s.clock.calendar r) (s.lane l).ctx.offers
      (s.lane l).heldTokens s (s.endHoldings l r) := by
  have h1 := s.dropIfOffer_gaveBack l
  have h2 := State.voidList_gaveBack l r ((s.dropIfOffer l).lane l).entries (s.dropIfOffer l)
  rw [h1.clock, s.dropIfOffer_lane, Lane.dropped_entries] at h2
  have h3 := h1.trans h2
  rw [← Lane.heldTokens_eq] at h3
  unfold State.endHoldings State.voidAll
  rw [s.dropIfOffer_lane, Lane.dropped_entries]
  exact h3

theorem State.endHoldings_berth_other (s : State) {l : LaneId} {b : BerthId} (r : VoidReason)
    (h : (s.lane l).role.boards ≠ some b) (he : ∀ e ∈ (s.lane l).entries, e.berth ≠ some b) :
    (s.endHoldings l r).berth b = s.berth b := by
  refine (State.voidList_berth_other l r _ _ ?_).trans (s.dropIfOffer_berth_other h)
  rw [s.dropIfOffer_lane]
  exact he

/-- The lanes of a list that board at a berth. -/
def State.boarding (s : State) (b : BerthId) (ls : List LaneId) : List LaneId :=
  ls.filter fun l => decide ((s.lane l).role.boards = some b)

theorem State.lanesAt_eq (s : State) (b : BerthId) : s.lanesAt b = s.boarding b LaneId.list := rfl

theorem LaneId.list_nodup : LaneId.list.Nodup := by decide

theorem LaneId.mem_list (l : LaneId) : l ∈ LaneId.list := by cases l <;> decide

/-- Lanes ended in turn: each lane of the list that boards at the berth. -/
theorem State.endBerthHoldings_lane (b : BerthId) (r : VoidReason) {ls : List LaneId} (hn : ls.Nodup) (s : State)
    (k : LaneId) : (s.endBerthHoldings b r ls).lane k
      = if k ∈ ls ∧ (s.lane k).role.boards = some b then (s.lane k).dropped.voided else s.lane k := by
  induction ls generalizing s with
  | nil => simp [State.endBerthHoldings]
  | cons l rest ih =>
    obtain ⟨hl, hrest⟩ := List.nodup_cons.mp hn
    unfold State.endBerthHoldings
    by_cases hk : k = l
    · subst hk
      split
      · rename_i hb
        rw [ih hrest, if_neg (fun h => hl h.1), if_pos ⟨List.mem_cons_self .., hb⟩, State.endHoldings_lane]
      · rename_i hb
        rw [ih hrest, if_neg (fun h => hb h.2), if_neg (fun h => hb h.2)]
    · have hm : (k ∈ l :: rest) ↔ k ∈ rest := by simp [hk]
      split
      · rw [ih hrest, State.endHoldings_other s r hk]
        simp only [hm]
      · rw [ih hrest]
        simp only [hm]

/-- The records, slots and uses of lanes ended in turn. -/
theorem State.endBerthHoldings_gaveBack (b : BerthId) (r : VoidReason) {ls : List LaneId} (hn : ls.Nodup) (s : State) :
    GaveBack (s.voidRecords (s.boarding b ls) r) (s.offerSlots (s.boarding b ls))
      ((s.boarding b ls).flatMap fun l => (s.lane l).heldTokens) s (s.endBerthHoldings b r ls) := by
  induction ls generalizing s with
  | nil => exact .refl s
  | cons l rest ih =>
    obtain ⟨hl, hrest⟩ := List.nodup_cons.mp hn
    unfold State.endBerthHoldings
    split
    · rename_i hb
      have h1 := s.endHoldings_gaveBack l r
      have h2 := ih hrest (s.endHoldings l r)
      have hsame : ∀ k ∈ rest, (s.endHoldings l r).lane k = s.lane k := fun k hk =>
        s.endHoldings_other r fun e => hl (e ▸ hk)
      have hbd : (s.endHoldings l r).boarding b rest = s.boarding b rest :=
        List.filter_congr fun k hk => by rw [hsame k hk]
      have hsub : ∀ k ∈ s.boarding b rest, (s.endHoldings l r).lane k = s.lane k := fun k hk =>
        hsame k (List.mem_of_mem_filter hk)
      have e1 : (s.endHoldings l r).voidRecords (s.boarding b rest) r = s.voidRecords (s.boarding b rest) r := by
        simp only [State.voidRecords, h1.clock]
        exact List.flatMap_congr fun k hk => by rw [hsub k hk]
      have e2 : (s.endHoldings l r).offerSlots (s.boarding b rest) = s.offerSlots (s.boarding b rest) := by
        simp only [State.offerSlots]
        exact congrArg _ (List.map_congr_left fun k hk => by rw [hsub k hk])
      have e3 : ((s.boarding b rest).flatMap fun l' => ((s.endHoldings l r).lane l').heldTokens)
          = (s.boarding b rest).flatMap fun l' => (s.lane l').heldTokens :=
        List.flatMap_congr fun k hk => by rw [hsub k hk]
      rw [hbd, e1, e2, e3] at h2
      have e0 : s.boarding b (l :: rest) = l :: s.boarding b rest := by simp [State.boarding, hb]
      rw [e0]
      exact h1.trans h2
    · rename_i hb
      have e0 : s.boarding b (l :: rest) = s.boarding b rest := by simp [State.boarding, hb]
      rw [e0]
      exact ih hrest s

/-- A berth's release of holdings sends nothing to the other berth, where entries name their lane's berth (R2). -/
theorem State.endBerthHoldings_berth_other (r : VoidReason) {b k : BerthId} (hk : k ≠ b) {ls : List LaneId}
    (hn : ls.Nodup) (s : State) (he : ∀ l ∈ ls, ∀ e ∈ (s.lane l).entries, e.berth = (s.lane l).role.boards) :
    (s.endBerthHoldings b r ls).berth k = s.berth k := by
  induction ls generalizing s with
  | nil => rfl
  | cons l rest ih =>
    obtain ⟨hl, hrest⟩ := List.nodup_cons.mp hn
    have hrest' := fun l' h => he l' (List.mem_cons_of_mem l h)
    unfold State.endBerthHoldings
    split
    · rename_i hb
      have hne : (s.lane l).role.boards ≠ some k := by rw [hb]; exact fun e => hk (Option.some.inj e).symm
      rw [ih hrest]
      · exact s.endHoldings_berth_other r hne fun e hm => (he l (List.mem_cons_self ..) e hm).symm ▸ hne
      · intro l' h'
        rw [s.endHoldings_other r fun e : l' = l => hl (e ▸ h')]
        exact hrest' l' h'
    · exact ih hrest s hrest'

end Sys2Proof.Machine
end

section
/-!
PROOF. The law of the places and the bound of two places a lane (R2, R7, R17, log 8): `KeepsPlaces s t`, and the changes
of lanes and calls that keep them.
-/
namespace Sys2Proof.Machine

/-! ## The laws, taken apart -/

/-- The law of the places with its clauses named. -/
structure Places (s : State) : Prop where
  calls : ∀ b c, s.call b = some c → c.placeLaw (s.placesHeld b)
  vacant : ∀ b, s.call b = none → s.placesHeld b = 0
  entries : ∀ l, ∀ e ∈ (s.lane l).entries, e.berth = (s.lane l).role.boards
  cold : ∀ stage, s.keep.run = .coldStart stage → ∀ l, (s.lane l).holdings = 0

theorem placeLaw_iff (s : State) : PlaceLaw s ↔ Places s := by
  constructor
  · rintro ⟨hb, he, hc⟩
    refine ⟨fun b c h => ?_, fun b h => ?_, he, hc⟩
    · have := hb b
      rwa [h] at this
    · have := hb b
      rwa [h] at this
  · intro h
    refine ⟨fun b => ?_, h.entries, h.cold⟩
    cases hc : s.call b with
    | none => exact h.vacant b hc
    | some c => exact h.calls b c hc

/-- From `s` to `t` the law of the places is kept, and with it the bound of two places a lane. -/
def KeepsPlaces (s t : State) : Prop := PlaceLaw s → PlaceLaw t ∧ (PlaceBoundLaw s → PlaceBoundLaw t)

namespace KeepsPlaces

theorem refl (s : State) : KeepsPlaces s s := fun h => ⟨h, id⟩

theorem trans {s t u : State} (h : KeepsPlaces s t) (k : KeepsPlaces t u) : KeepsPlaces s u := fun hs =>
  ⟨(k (h hs).1).1, fun hb => (k (h hs).1).2 ((h hs).2 hb)⟩

end KeepsPlaces

/-! ## Places held -/

theorem PerLane.sum_congr {α β : Type} {f : α → Nat} {g : β → Nat} {p : PerLane α} {q : PerLane β}
    (h : ∀ l, f (p.get l) = g (q.get l)) : p.sum f = q.sum g := by
  have h0 := h .l0; have h1 := h .l1; have h2 := h .l2; have h3 := h .l3
  have h4 := h .l4; have h5 := h .l5; have h6 := h .l6; have h7 := h .l7
  simp only [PerLane.get] at h0 h1 h2 h3 h4 h5 h6 h7
  simp only [PerLane.sum, h0, h1, h2, h3, h4, h5, h6, h7]

theorem State.placesHeld_congr {s t : State} {b : BerthId} (h : ∀ l, (t.lane l).placesOn b = (s.lane l).placesOn b) :
    t.placesHeld b = s.placesHeld b := PerLane.sum_congr h

/-- The places held after one lane is replaced. -/
theorem State.setLane_placesHeld (s : State) (l : LaneId) (x : Lane) (b : BerthId) :
    (s.setLane l x).placesHeld b + (s.lane l).placesOn b = s.placesHeld b + x.placesOn b :=
  PerLane.sum_set (Lane.placesOn b) s.lanes l x

theorem State.lane_placesOn_le (s : State) (l : LaneId) (b : BerthId) : (s.lane l).placesOn b ≤ s.placesHeld b :=
  PerLane.le_sum (Lane.placesOn b) s.lanes l

theorem Lane.placesOn_at {x : Lane} {b : BerthId} (h : x.role.boards = some b) : x.placesOn b = x.holdings := if_pos h

theorem Lane.placesOn_elsewhere {x : Lane} {b : BerthId} (h : x.role.boards ≠ some b) : x.placesOn b = 0 := if_neg h

theorem Lane.placesOn_le (x : Lane) (b : BerthId) : x.placesOn b ≤ x.holdings := by
  unfold Lane.placesOn
  split <;> omega

theorem Lane.placesOn_of_empty {x : Lane} (h : x.holdings = 0) (b : BerthId) : x.placesOn b = 0 := by
  have := x.placesOn_le b
  omega

/-! ## Lanes and calls that keep their places -/

/-- A lane as far as the places of its berth and its list go. -/
structure Lane.SamePlaces (x y : Lane) : Prop where
  places : ∀ b, y.placesOn b = x.placesOn b
  entries : (∀ e ∈ x.entries, e.berth = x.role.boards) → ∀ e ∈ y.entries, e.berth = y.role.boards
  list : x.listLaw → y.listLaw

/-- A call keeps the law of its places, whatever is held, and no lane has more messages on their way. -/
structure Call.SamePlaces (c d : Call) : Prop where
  law : ∀ held, c.placeLaw held → d.placeLaw held
  flight : ∀ l, d.inFlightOf l ≤ c.inFlightOf l

theorem Call.SamePlaces.refl (c : Call) : c.SamePlaces c := ⟨fun _ h => h, fun _ => Nat.le_refl _⟩

/-- Berths whose calls stand and keep their places. -/
def SameCalls (s t : State) : Prop :=
  ∀ b, (s.call b = none → t.call b = none) ∧ ∀ c, s.call b = some c → ∃ d, t.call b = some d ∧ c.SamePlaces d

theorem SameCalls.of_eq {s t : State} (h : ∀ b, t.call b = s.call b) : SameCalls s t := fun b =>
  ⟨fun hc => (h b).trans hc, fun c hc => ⟨c, (h b).trans hc, .refl c⟩⟩

/-- A call of `t` comes from one of `s`. -/
theorem SameCalls.of_some {s t : State} (h : SameCalls s t) {b : BerthId} {d : Call} (hd : t.call b = some d) :
    ∃ c, s.call b = some c ∧ c.SamePlaces d := by
  cases hc : s.call b with
  | none => rw [(h b).1 hc] at hd; cases hd
  | some c =>
    obtain ⟨d', hd', hs⟩ := (h b).2 c hc
    rw [hd] at hd'
    cases hd'
    exact ⟨c, rfl, hs⟩

/-- Lanes and calls that keep their places keep the laws. -/
theorem keepsPlaces_of {s t : State} (lanes : ∀ l, (s.lane l).SamePlaces (t.lane l)) (calls : SameCalls s t)
    (cold : ∀ stage, t.keep.run = .coldStart stage → ∃ before, s.keep.run = .coldStart before
      ∧ ∀ l, (s.lane l).holdings = 0 → (t.lane l).holdings = 0) : KeepsPlaces s t := by
  intro h
  have h := (placeLaw_iff s).mp h
  have hheld : ∀ b, t.placesHeld b = s.placesHeld b := fun b => State.placesHeld_congr fun l => (lanes l).places b
  refine ⟨(placeLaw_iff t).mpr ⟨fun b d hd => ?_, fun b hb => ?_, fun l => (lanes l).entries (h.entries l),
    fun stage hr l => ?_⟩, fun hb => ⟨fun l => (lanes l).list (hb.1 l), fun b d l hd => ?_⟩⟩
  · obtain ⟨c, hc, hs⟩ := calls.of_some hd
    rw [hheld]
    exact hs.law _ (h.calls b c hc)
  · rw [hheld]
    refine h.vacant b ?_
    cases hc : s.call b with
    | none => rfl
    | some c =>
      obtain ⟨d, hd, _⟩ := (calls b).2 c hc
      rw [hb] at hd
      cases hd
  · obtain ⟨before, hbefore, hempty⟩ := cold stage hr
    exact hempty l (h.cold before hbefore l)
  · obtain ⟨c, hc, hs⟩ := calls.of_some hd
    rw [(lanes l).places b]
    exact Nat.le_trans (Nat.add_le_add_left (hs.flight l) _) (hb.2 b c l hc)

/-! ## Changes beside the lanes and the berths -/

/-- No lane and no berth changed, and the part runs or restarts as before. -/
structure Aside (s t : State) : Prop where
  lanes : t.lanes = s.lanes
  berths : t.berths = s.berths
  run : t.keep.run = s.keep.run

namespace Aside

theorem refl (s : State) : Aside s s := ⟨rfl, rfl, rfl⟩

theorem trans {s t u : State} (h : Aside s t) (k : Aside t u) : Aside s u :=
  ⟨k.lanes.trans h.lanes, k.berths.trans h.berths, k.run.trans h.run⟩

theorem lane {s t : State} (h : Aside s t) (l : LaneId) : t.lane l = s.lane l := by simp only [State.lane, h.lanes]

theorem call {s t : State} (h : Aside s t) (b : BerthId) : t.call b = s.call b := by
  simp only [State.call, State.berth, h.berths]

end Aside

theorem Lane.SamePlaces.refl (x : Lane) : x.SamePlaces x := ⟨fun _ => rfl, id, id⟩

/-- Lanes and calls unchanged, in a part that is in no cold start it was not in. -/
theorem KeepsPlaces.of_eq {s t : State} (hl : t.lanes = s.lanes) (hb : t.berths = s.berths)
    (cold : ∀ stage, t.keep.run = .coldStart stage → ∃ before, s.keep.run = .coldStart before) : KeepsPlaces s t := by
  have hlane : ∀ l, t.lane l = s.lane l := fun l => by simp only [State.lane, hl]
  refine keepsPlaces_of (fun l => hlane l ▸ .refl _) (.of_eq fun b => ?_) fun stage hr => ?_
  · simp only [State.call, State.berth, hb]
  · obtain ⟨before, h⟩ := cold stage hr
    exact ⟨before, h, fun l h0 => (hlane l).symm ▸ h0⟩

theorem Aside.keepsPlaces {s t : State} (h : Aside s t) : KeepsPlaces s t :=
  .of_eq h.lanes h.berths fun stage hr => ⟨stage, h.run ▸ hr⟩

/-! ## One lane changed -/

/-- A lane changed that keeps its places. -/
theorem State.updLane_keepsPlaces (s : State) (l : LaneId) (f : Lane → Lane) (h : (s.lane l).SamePlaces (f (s.lane l)))
    (h0 : (s.lane l).holdings = 0 → (f (s.lane l)).holdings = 0) : KeepsPlaces s (s.updLane l f) := by
  refine keepsPlaces_of (fun k => ?_) (.of_eq fun b => rfl) fun stage hr => ⟨stage, hr, fun k hk => ?_⟩ <;>
    by_cases e : k = l
  · subst e; rw [State.updLane_lane]; exact h
  · rw [State.updLane_other _ _ e]; exact .refl _
  · subst e; rw [State.updLane_lane]; exact h0 hk
  · rw [State.updLane_other _ _ e]; exact hk

/-- Every lane changed, each keeping its places. -/
theorem State.mapLanes_keepsPlaces (s : State) (f : Lane → Lane) (h : ∀ x : Lane, x.SamePlaces (f x))
    (h0 : ∀ x : Lane, x.holdings = 0 → (f x).holdings = 0) : KeepsPlaces s (s.withLanes (s.lanes.map f)) := by
  have hl : ∀ l, (s.withLanes (s.lanes.map f)).lane l = f (s.lane l) := fun l => PerLane.get_map f s.lanes l
  refine keepsPlaces_of (fun l => ?_) (.of_eq fun b => rfl) fun stage hr => ⟨stage, hr, fun l hk => ?_⟩
  · rw [hl]; exact h _
  · rw [hl]; exact h0 _ hk

/-- Role, context and list as they were: every other field of a lane is beside its places. -/
theorem Lane.SamePlaces.of_still {x y : Lane} (hr : y.role = x.role) (hc : y.ctx = x.ctx) (he : y.entries = x.entries) :
    x.SamePlaces y := by
  refine ⟨fun b => ?_, fun h => ?_, fun h => ?_⟩
  · simp only [Lane.placesOn, Lane.holdings, hr, hc, he]
  · rwa [he, hr]
  · simp only [Lane.listLaw] at h ⊢
    rwa [hc, he]

theorem State.updLane_still (s : State) (l : LaneId) (f : Lane → Lane)
    (h : ∀ x : Lane, (f x).role = x.role ∧ (f x).ctx = x.ctx ∧ (f x).entries = x.entries) :
    KeepsPlaces s (s.updLane l f) := by
  obtain ⟨hr, hc, he⟩ := h (s.lane l)
  exact s.updLane_keepsPlaces l f (.of_still hr hc he) fun h0 => by simpa only [Lane.holdings, hc, he] using h0

theorem State.mapLanes_still (s : State) (f : Lane → Lane)
    (h : ∀ x : Lane, (f x).role = x.role ∧ (f x).ctx = x.ctx ∧ (f x).entries = x.entries) :
    KeepsPlaces s (s.withLanes (s.lanes.map f)) := by
  refine s.mapLanes_keepsPlaces f (fun x => ?_) fun x h0 => ?_ <;> obtain ⟨hr, hc, he⟩ := h x
  · exact .of_still hr hc he
  · simpa only [Lane.holdings, hc, he] using h0

/-- A context changed for one that holds no offer either and may lead to an entry only where the list allows it. -/
theorem Lane.SamePlaces.of_context {x y : Lane} (hr : y.role = x.role) (he : y.entries = x.entries)
    (ho : y.ctx.offers = x.ctx.offers)
    (hp : y.ctx.pendingAdmission = true → x.listLaw → x.entries.length ≤ 1 ∧ ∀ e ∈ x.entries, e.phase = .awaitPassage) :
    x.SamePlaces y := by
  refine ⟨fun b => ?_, fun h => ?_, fun h => ?_⟩
  · simp only [Lane.placesOn, Lane.holdings, hr, ho, he]
  · rwa [he, hr]
  · refine ⟨he ▸ h.1, he ▸ h.2.1, fun hpend => ?_⟩
    rw [he]
    exact hp hpend h

/-- A context changed for one that leads to no entry. -/
theorem State.setContext_keepsPlaces (s : State) (l : LaneId) {c : Context} (h : (s.lane l).ctx.offers = 0)
    (hc : c.offers = 0) (hp : c.pendingAdmission = false) : KeepsPlaces s (s.setContext l c) :=
  s.updLane_keepsPlaces l _
    (.of_context rfl rfl (hc.trans h.symm) fun e => absurd (hp.symm.trans e) Bool.false_ne_true)
    fun h0 => by simpa only [Lane.holdings, hc, h] using h0

/-- An answered TAKE (R50): an offer becomes an entry of the lane's berth, at the young end of a list that has room. -/
theorem Lane.answerTake_samePlaces (x : Lane) (now : Nat) : x.SamePlaces (x.answerTake now) := by
  have hr : (x.answerTake now).role = x.role := (x.answerTake_keeps now).1
  have hh := x.answerTake_holdings now
  cases hx : x.ctx with
  | offer o =>
    have ha : (x.answerTake now).entries = x.entries ++ [o.entry x.role x.settings now]
        ∧ (x.answerTake now).ctx = .free := by simp only [Lane.answerTake, hx, and_self]
    refine ⟨fun b => by simp only [Lane.placesOn, hr, hh], fun h e he => ?_, fun h => ?_⟩
    · rw [hr]
      rw [ha.1] at he
      rcases List.mem_append.mp he with he | he
      · exact h e he
      · rw [List.mem_singleton.mp he]; rfl
    · obtain ⟨hl, hp⟩ := h.2.2 (by rw [hx]; rfl)
      refine ⟨?_, ?_, fun hc => ?_⟩
      · simpa [ha.1] using hl
      · simpa [ha.1] using hp
      · rw [ha.2] at hc; cases hc
  | refused r =>
    refine .of_context hr (by simp only [Lane.answerTake, hx]) (by simp only [Lane.answerTake, hx]; rfl) fun hc => ?_
    simp only [Lane.answerTake, hx] at hc
    cases hc
  | free => exact .of_still hr (by simp only [Lane.answerTake, hx]) (by simp only [Lane.answerTake, hx])
  | waiting e d => exact .of_still hr (by simp only [Lane.answerTake, hx]) (by simp only [Lane.answerTake, hx])

theorem State.settle_keepsPlaces (s : State) (l : LaneId) : KeepsPlaces s (s.settle l) := by
  unfold State.settle
  split
  · have h := (({ s.lane l with takeHeld := false } : Lane)).answerTake_samePlaces s.now
    exact s.updLane_keepsPlaces l _ ⟨h.places, h.entries, h.list⟩ fun h0 =>
      (Lane.answerTake_holdings { s.lane l with takeHeld := false } s.now).trans h0
  · exact .refl s

/-! ## One call changed -/

theorem SameCalls.setCall {s : State} {b : BerthId} {c d : Call} (hc : s.call b = some c) (h : c.SamePlaces d) :
    SameCalls s (s.setCall b (some d)) := by
  intro k
  by_cases e : k = b
  · subst e
    rw [State.setCall_call, hc]
    exact ⟨nofun, fun c' hc' => ⟨d, rfl, Option.some.inj hc' ▸ h⟩⟩
  · rw [State.setCall_call_other _ _ e]
    exact ⟨id, fun c' hc' => ⟨c', hc', .refl c'⟩⟩

theorem State.setCall_keep (s : State) (b : BerthId) (c : Option Call) : (s.setCall b c).keep = s.keep :=
  (s.setCall_quiet b c).keep

theorem State.setCall_lanes (s : State) (b : BerthId) (c : Option Call) : (s.setCall b c).lanes = s.lanes := by
  rw [State.setCall_eq]; rfl

/-- An open call changed that keeps its places. -/
theorem State.setCall_keepsPlaces {s : State} {b : BerthId} {c d : Call} (hc : s.call b = some c)
    (h : c.SamePlaces d) : KeepsPlaces s (s.setCall b (some d)) := by
  refine keepsPlaces_of (fun l => ?_) (.setCall hc h) fun stage hr => ?_
  · rw [State.setCall_lane]; exact .refl _
  · rw [State.setCall_keep] at hr
    exact ⟨stage, hr, fun l h0 => by rwa [State.setCall_lane]⟩

theorem State.updCall_keepsPlaces (s : State) (b : BerthId) {f : Call → Call} (h : ∀ c : Call, c.SamePlaces (f c)) :
    KeepsPlaces s (s.updCall b f) := by
  cases hc : s.call b with
  | none => rw [State.updCall_none hc]; exact .refl s
  | some c => rw [State.updCall_some hc]; exact State.setCall_keepsPlaces hc (h c)

/-- A call whose reserved count and messages stand and that comes to HANDOVER only with nothing reserved. -/
theorem Call.SamePlaces.of_still {c d : Call} (hr : d.reserved = c.reserved) (hf : d.inFlight = c.inFlight)
    (hs : d.stage = .handover → c.stage = .handover ∨ c.reserved = 0) : c.SamePlaces d := by
  refine ⟨fun held h => ⟨?_, fun e => ?_⟩, fun l => ?_⟩
  · rw [hr, hf]; exact h.1
  · rw [hr]
    rcases hs e with e | e
    · exact h.2 e
    · exact e
  · simp only [Call.inFlightOf, hf]; exact Nat.le_refl _

/-! ## Messages taken -/

/-- What taking messages leaves of a call besides its counts. -/
theorem Call.takeAll_places (ms : List (LaneId × Holding)) (c : Call) :
    (ms.foldl (fun d m => d.takeHolding m.2) c).reserved = c.reserved - ms.length
    ∧ (ms.foldl (fun d m => d.takeHolding m.2) c).stage = c.stage := by
  induction ms generalizing c with
  | nil => exact ⟨rfl, rfl⟩
  | cons m rest ih =>
    have h1 : (c.takeHolding m.2).reserved = c.reserved - 1 ∧ (c.takeHolding m.2).stage = c.stage := by
      cases m.2 <;> exact ⟨rfl, rfl⟩
    obtain ⟨hr, hs⟩ := ih (c.takeHolding m.2)
    refine ⟨?_, hs.trans h1.2⟩
    rw [List.foldl_cons, hr, h1.1, List.length_cons]
    omega

theorem Call.takeWhere_reserved (p : LaneId → Bool) (c : Call) :
    (c.takeWhere p).reserved = c.reserved - (c.inFlight.filter fun m => p m.1).length := (Call.takeAll_places _ c).1

theorem Call.takeWhere_stage (p : LaneId → Bool) (c : Call) : (c.takeWhere p).stage = c.stage :=
  (Call.takeAll_places _ c).2

theorem Call.takeWhere_inFlight (p : LaneId → Bool) (c : Call) :
    (c.takeWhere p).inFlight = c.inFlight.filter fun m => !p m.1 := rfl

/-- Messages taken and messages left are those there were. -/
theorem length_taken_add_left (p : LaneId → Bool) (ms : List (LaneId × Holding)) :
    (ms.filter fun m => p m.1).length + (ms.filter fun m => !p m.1).length = ms.length := by
  induction ms with
  | nil => rfl
  | cons m rest ih => cases h : p m.1 <;> simp [h] <;> omega

theorem Call.takeWhere_samePlaces (p : LaneId → Bool) (c : Call) : c.SamePlaces (c.takeWhere p) := by
  have hl := length_taken_add_left p c.inFlight
  refine ⟨fun held h => ?_, fun l => ?_⟩
  · obtain ⟨h1, h2⟩ := h
    refine ⟨?_, fun e => ?_⟩
    · rw [Call.takeWhere_reserved, Call.takeWhere_inFlight]; omega
    · rw [Call.takeWhere_stage] at e
      rw [Call.takeWhere_reserved, h2 e]; omega
  · exact List.Sublist.countP_le List.filter_sublist

theorem State.takeAllInFlight_keepsPlaces (s : State) (b : BerthId) : KeepsPlaces s (s.takeAllInFlight b) :=
  s.updCall_keepsPlaces b fun c => c.takeWhere_samePlaces _

/-- One message taken out of those in flight (R26, R28). -/
theorem takeMessage_some {l : LaneId} {m : Holding} {ms rest : List (LaneId × Holding)}
    (h : takeMessage l m ms = some rest) : rest.Sublist ms ∧ rest.length + 1 = ms.length := by
  induction ms generalizing rest with
  | nil => cases h
  | cons x xs ih =>
    unfold takeMessage at h
    split at h
    · cases h
      exact ⟨List.sublist_cons_self x xs, rfl⟩
    · cases ht : takeMessage l m xs with
      | none => rw [ht] at h; cases h
      | some ys =>
        rw [ht] at h
        cases h
        obtain ⟨h1, h2⟩ := ih ht
        exact ⟨h1.cons_cons x, by simp [h2]⟩

/-- A message taken, with R17 judged. -/
theorem Call.takeOne_samePlaces {c : Call} {rest : List (LaneId × Holding)} (hs : rest.Sublist c.inFlight)
    (hl : rest.length + 1 = c.inFlight.length) (m : Holding) :
    c.SamePlaces ({ c with inFlight := rest }.takeHolding m).closeIfEmpty := by
  have hd : ({ c with inFlight := rest }.takeHolding m).reserved = c.reserved - 1
      ∧ ({ c with inFlight := rest }.takeHolding m).stage = c.stage
      ∧ ({ c with inFlight := rest }.takeHolding m).inFlight = rest := by cases m <;> exact ⟨rfl, rfl, rfl⟩
  generalize { c with inFlight := rest }.takeHolding m = d at hd
  obtain ⟨hdr, hds, hdf⟩ := hd
  have hcr : d.closeIfEmpty.reserved = c.reserved - 1 ∧ d.closeIfEmpty.inFlight = rest := by
    unfold Call.closeIfEmpty
    split <;> exact ⟨hdr, hdf⟩
  refine ⟨fun held h => ⟨?_, fun e => ?_⟩, fun l => ?_⟩
  · rw [hcr.1, hcr.2, h.1]; omega
  · rw [hcr.1]
    unfold Call.closeIfEmpty at e
    split at e
    · rename_i h0; rw [← hdr]; exact h0.2.2
    · rw [hds] at e; rw [h.2 e]
  · simp only [Call.inFlightOf, hcr.2]
    exact hs.countP_le

theorem State.takeFromLane_keepsPlaces (s : State) (b : BerthId) (l : LaneId) (m : Holding) :
    KeepsPlaces s (s.takeFromLane b l m) := by
  unfold State.takeFromLane
  split
  · exact .refl s
  · rename_i c hc
    split
    · exact .refl s
    · rename_i rest hm
      obtain ⟨h1, h2⟩ := takeMessage_some hm
      exact State.setCall_keepsPlaces hc (Call.takeOne_samePlaces h1 h2 m)

/-! ## A lane's holding and its call changed together -/

/-- The places held on the other berth stand when a lane of this one changes. -/
theorem State.setLane_placesHeld_other {s : State} {l : LaneId} {y : Lane} {b k : BerthId}
    (hat : (s.lane l).role.boards = some b) (hr : y.role = (s.lane l).role) (hk : k ≠ b) :
    (s.setLane l y).placesHeld k = s.placesHeld k := by
  have hne : (s.lane l).role.boards ≠ some k := by rw [hat]; exact fun e => hk (Option.some.inj e).symm
  have h := s.setLane_placesHeld l y k
  rw [Lane.placesOn_elsewhere hne, Lane.placesOn_elsewhere (x := y) (hr ▸ hne)] at h
  exact h

section
variable {s : State} {l : LaneId} {b : BerthId} {c d : Call} {y : Lane}

/-- A boarding lane and its berth's call changed together: `d` is a call of the places that are then held. -/
theorem State.exchange_places (h : Places s) (hat : (s.lane l).role.boards = some b) (hc : s.call b = some c)
    (hr : y.role = (s.lane l).role) (he : ∀ e ∈ y.entries, e ∈ (s.lane l).entries)
    (hlaw : ∀ held after, c.placeLaw held → (s.lane l).holdings ≤ held →
      after + (s.lane l).holdings = held + y.holdings → d.placeLaw after)
    (hcold : ∀ stage, s.keep.run = .coldStart stage → (s.lane l).holdings = 0 → y.holdings = 0) :
    Places ((s.setLane l y).setCall b (some d)) := by
  have hheld : ∀ k, ((s.setLane l y).setCall b (some d)).placesHeld k = (s.setLane l y).placesHeld k := fun k =>
    State.placesHeld_congr fun j => by rw [State.setCall_lane]
  have hsum := s.setLane_placesHeld l y b
  have hle := s.lane_placesOn_le l b
  rw [Lane.placesOn_at hat] at hsum hle
  rw [Lane.placesOn_at (x := y) (hr ▸ hat)] at hsum
  refine ⟨fun k c' hk => ?_, fun k hk => ?_, fun k => ?_, fun stage hs k => ?_⟩
  · rw [hheld]
    by_cases e : k = b
    · subst e
      rw [State.setCall_call] at hk
      cases hk
      exact hlaw _ _ (h.calls k c hc) hle hsum
    · rw [State.setCall_call_other _ _ e] at hk
      exact (State.setLane_placesHeld_other hat hr e).symm ▸ h.calls k c' hk
  · rw [hheld]
    by_cases e : k = b
    · subst e; rw [State.setCall_call] at hk; cases hk
    · rw [State.setCall_call_other _ _ e] at hk
      exact (State.setLane_placesHeld_other hat hr e).trans (h.vacant k hk)
  · rw [State.setCall_lane]
    by_cases e : k = l
    · subst e; rw [State.setLane_lane, hr]; exact fun x hx => h.entries k x (he x hx)
    · rw [State.setLane_other _ _ e]; exact h.entries k
  · rw [State.setCall_keep] at hs
    rw [State.setCall_lane]
    by_cases e : k = l
    · subst e; rw [State.setLane_lane]; exact hcold stage hs (h.cold stage hs k)
    · rw [State.setLane_other _ _ e]; exact h.cold stage hs k

/-- The same for the bound of two places a lane. -/
theorem State.exchange_bound (h : PlaceBoundLaw s) (hat : (s.lane l).role.boards = some b) (hc : s.call b = some c)
    (hr : y.role = (s.lane l).role) (hlist : (s.lane l).listLaw → y.listLaw)
    (hother : ∀ k, k ≠ l → d.inFlightOf k ≤ c.inFlightOf k)
    (hown : (s.lane l).listLaw → (s.lane l).holdings + c.inFlightOf l ≤ 2 → y.holdings + d.inFlightOf l ≤ 2) :
    PlaceBoundLaw ((s.setLane l y).setCall b (some d)) := by
  obtain ⟨hl, hb⟩ := h
  refine ⟨fun k => ?_, fun k c' j hk => ?_⟩ <;> rw [State.setCall_lane]
  · by_cases e : k = l
    · subst e; rw [State.setLane_lane]; exact hlist (hl k)
    · rw [State.setLane_other _ _ e]; exact hl k
  · by_cases e : k = b
    · subst e
      rw [State.setCall_call] at hk
      cases hk
      by_cases ej : j = l
      · subst ej
        have hold := hb k c j hc
        rw [Lane.placesOn_at hat] at hold
        rw [State.setLane_lane, Lane.placesOn_at (hr ▸ hat)]
        exact hown (hl j) hold
      · rw [State.setLane_other _ _ ej]
        exact Nat.le_trans (Nat.add_le_add_left (hother j ej) _) (hb k c j hc)
    · rw [State.setCall_call_other _ _ e] at hk
      have hold := hb k c' j hk
      by_cases ej : j = l
      · subst ej
        rw [State.setLane_lane, Lane.placesOn_elsewhere (by rw [hr, hat]; exact fun h => e (Option.some.inj h).symm)]
        omega
      · rw [State.setLane_other _ _ ej]; exact hold

end

/-- A message of lane `l` joins those of lane `k` where the two are one (R7). -/
theorem Call.send_inFlightOf (c : Call) (l : LaneId) (m : Holding) (k : LaneId) :
    (c.send l m).inFlightOf k = c.inFlightOf k + if l = k then 1 else 0 := by
  simp [Call.inFlightOf, Call.send, List.countP_append, List.countP_cons]

/-- A lane that gives up a holding and sends the message for its place: the place is held by the message (R7). -/
theorem State.giveUp_keepsPlaces {s : State} {l : LaneId} {y : Lane} (bo : Option BerthId) (m : Holding)
    (hr : y.role = (s.lane l).role) (hh : y.holdings + 1 = (s.lane l).holdings)
    (he : ∀ e ∈ y.entries, e ∈ (s.lane l).entries) (hlist : (s.lane l).listLaw → y.listLaw)
    (hb : PlaceLaw s → bo = (s.lane l).role.boards) : KeepsPlaces s ((s.setLane l y).sendHolding bo l m) := by
  intro hs
  have h := (placeLaw_iff s).mp hs
  have hbo := hb hs
  cases bo with
  | none =>
    have hp : ∀ b, y.placesOn b = (s.lane l).placesOn b := fun b => by
      rw [Lane.placesOn_elsewhere (x := y) (by rw [hr, ← hbo]; simp), Lane.placesOn_elsewhere (by rw [← hbo]; simp)]
    exact s.updLane_keepsPlaces l (fun _ => y) ⟨hp, fun ho e hm => hr ▸ ho e (he e hm), hlist⟩ (fun h0 => by omega) hs
  | some b =>
    cases hc : s.call b with
    | none =>
      have h1 := h.vacant b hc
      have h2 := s.lane_placesOn_le l b
      rw [Lane.placesOn_at hbo.symm] at h2
      omega
    | some c =>
      rw [show (s.setLane l y).sendHolding (some b) l m = _ from State.updCall_some (s := s.setLane l y) hc _]
      refine ⟨(placeLaw_iff _).mpr (State.exchange_places h hbo.symm hc hr he (fun held after hlaw hle ha => ?_)
        fun _ _ h0 => by omega), fun hbound => State.exchange_bound hbound hbo.symm hc hr hlist (fun k hk => ?_)
        fun _ hold => ?_⟩
      · refine ⟨?_, hlaw.2⟩
        show c.reserved = after + (c.inFlight ++ [(l, m)]).length
        rw [hlaw.1, List.length_append, List.length_singleton]
        omega
      · rw [Call.send_inFlightOf, if_neg (Ne.symm hk)]; exact Nat.le_refl _
      · rw [Call.send_inFlightOf, if_pos rfl]; omega

/-- A place claimed for a lane's new offer, the lane's own earlier messages taken first (R25, log 8). -/
theorem State.admit_keepsPlaces {s : State} {l : LaneId} {b : BerthId} {c : Call} {y : Lane}
    (hrun : s.keep.run = .running) (hat : (s.lane l).role.boards = some b) (hc : s.call b = some c)
    (hg : c.stage ≠ .handover) (hr : y.role = (s.lane l).role) (hh : y.holdings = (s.lane l).holdings + 1)
    (he : y.entries = (s.lane l).entries) (hlist : (s.lane l).listLaw → y.listLaw ∧ y.holdings ≤ 2) :
    KeepsPlaces s ((s.setLane l y).setCall b (some { c.takeWhere (fun k => decide (k = l)) with
      reserved := (c.takeWhere fun k => decide (k = l)).reserved + 1 })) := by
  intro hs
  have h := (placeLaw_iff s).mp hs
  have hsame := c.takeWhere_samePlaces fun k => decide (k = l)
  refine ⟨(placeLaw_iff _).mpr (State.exchange_places h hat hc hr (he ▸ fun e hm => hm)
    (fun held after hlaw hle ha => ?_) fun stage hcold => absurd (hrun.symm.trans hcold) (by simp)),
    fun hbound => State.exchange_bound hbound hat hc hr (fun hl => (hlist hl).1) (fun k _ => hsame.flight k)
      fun hl _ => ?_⟩
  · obtain ⟨hlaw1, -⟩ := hsame.law held hlaw
    refine ⟨?_, fun e => absurd ((c.takeWhere_stage fun k => decide (k = l)).symm.trans e) hg⟩
    show (c.takeWhere fun k => decide (k = l)).reserved + 1
      = after + (c.takeWhere fun k => decide (k = l)).inFlight.length
    rw [hlaw1]
    omega
  · have h0 : (c.takeWhere fun k => decide (k = l)).inFlightOf l = 0 := by
      simp [Call.inFlightOf, Call.takeWhere_inFlight, List.countP_filter]
    show y.holdings + (c.takeWhere fun k => decide (k = l)).inFlightOf l ≤ 2
    rw [h0]
    exact (hlist hl).2

end Sys2Proof.Machine
end

section
/-!
PROOF. The shared operations over lanes and berths keep the law of the places and the bound (R2, R7, R17, R25): each has
its lemma.
-/
namespace Sys2Proof.Machine

/-! ## The log, the tables, the station port -/

theorem State.withLog_aside (s : State) (g : TripLog) : Aside s (s.withLog g) := ⟨rfl, rfl, rfl⟩
theorem State.withTaps_aside (s : State) (t : List TapEntry) : Aside s (s.withTaps t) := ⟨rfl, rfl, rfl⟩
theorem State.withAsked_aside (s : State) (cs : List Content) : Aside s (s.withAsked cs) := ⟨rfl, rfl, rfl⟩
theorem State.withDeny_aside (s : State) (d : DenyUnit) : Aside s (s.withDeny d) := ⟨rfl, rfl, rfl⟩
theorem State.withPort_aside (s : State) (p : FlashPort) : Aside s (s.withPort p) := ⟨rfl, rfl, rfl⟩
theorem State.withStation_aside (s : State) (x : Station) : Aside s (s.withStation x) := ⟨rfl, rfl, rfl⟩
theorem State.latch_aside (s : State) (f : Causes → Causes) : Aside s (s.latch f) := ⟨rfl, rfl, rfl⟩
theorem State.count_aside (s : State) (f : LandingStats → LandingStats) : Aside s (s.count f) := ⟨rfl, rfl, rfl⟩
theorem State.releaseUse_aside (s : State) (id : TokenId) : Aside s (s.releaseUse id) := ⟨rfl, rfl, rfl⟩
theorem State.releaseSlot_aside (s : State) : Aside s s.releaseSlot := ⟨rfl, rfl, rfl⟩
theorem State.appendReserved_aside (s : State) (c : Content) : Aside s (s.appendReserved c) := ⟨rfl, rfl, rfl⟩

theorem State.appendUnreserved_aside (s : State) (c : Content) : Aside s (s.appendUnreserved c) := by
  unfold State.appendUnreserved
  split <;> exact ⟨rfl, rfl, rfl⟩

theorem State.appendAll_aside (cs : List Content) (s : State) : Aside s (cs.foldl State.appendUnreserved s) := by
  induction cs generalizing s with
  | nil => exact .refl s
  | cons c rest ih => exact (s.appendUnreserved_aside c).trans (ih _)

theorem State.takeAsked_aside (s : State) : Aside s s.takeAsked :=
  (s.withAsked_aside []).trans (State.appendAll_aside _ _)

theorem State.askRefusal_aside (s : State) (r : Reason) (c : Content) : Aside s (s.askRefusal r c) := by
  unfold State.askRefusal
  split
  · exact s.withAsked_aside _
  · exact s.takeAsked_aside.trans (State.appendUnreserved_aside _ _)

theorem State.arbitrate_aside (s : State) : Aside s s.arbitrate := s.withPort_aside _

theorem State.grantRead_aside (s : State) (w : Bool) : Aside s (s.grantRead w) := by
  unfold State.grantRead State.countStart
  split
  · split <;> exact ⟨rfl, rfl, rfl⟩
  · exact s.withPort_aside _

theorem State.removeLookup_aside (s : State) (l : LaneId) : Aside s (s.removeLookup l) := by
  unfold State.removeLookup
  dsimp only
  split <;> exact ⟨rfl, rfl, rfl⟩

theorem State.withdrawLookup_aside (s : State) (l : LaneId) : Aside s (s.withdrawLookup l) := by
  unfold State.withdrawLookup
  split
  · exact (s.grantRead_aside _).trans (State.removeLookup_aside _ l)
  · exact s.removeLookup_aside l

theorem State.countLane_still (s : State) (l : LaneId) (f : LaneStats → LaneStats) : KeepsPlaces s (s.countLane l f) :=
  s.updLane_still l _ fun _ => ⟨rfl, rfl, rfl⟩

theorem State.replyLane_still (s : State) (l : LaneId) (r : Option LaneReply) : KeepsPlaces s (s.replyLane l r) :=
  s.updLane_still l _ fun _ => ⟨rfl, rfl, rfl⟩

theorem State.cancelEvaluation_keepsPlaces (s : State) (l : LaneId) (h : (s.lane l).ctx.offers = 0) :
    KeepsPlaces s (s.cancelEvaluation l) :=
  (s.withdrawLookup_aside l).keepsPlaces.trans
    (State.setContext_keepsPlaces _ l ((congrArg (·.ctx.offers) ((s.withdrawLookup_aside l).lane l)).trans h) rfl rfl)

/-! ## Drops, voids and commits -/

/-- An offer dropped (R49). -/
theorem State.dropOffer_keepsPlaces (s : State) (l : LaneId) {o : Offer} (h : (s.lane l).ctx = .offer o) :
    KeepsPlaces s (s.dropOffer l o) := by
  have ho : (s.lane l).ctx.offers = 1 := by rw [h]; rfl
  refine ((s.releaseUse_aside o.tokenId).trans (State.releaseSlot_aside _)).keepsPlaces.trans
    (State.giveUp_keepsPlaces _ .release rfl ?_ (fun e he => he) (fun hl => ?_) fun _ => rfl)
  · show 0 + (s.lane l).entries.length + 1 = (s.lane l).ctx.offers + (s.lane l).entries.length
    omega
  · exact ⟨hl.1, hl.2.1, nofun⟩

/-- A list without one of its entries is a list again (R54). -/
theorem Lane.listLaw_without {x y : Lane} (h : x.listLaw) (hc : y.ctx = x.ctx)
    (hl : y.entries.length + 1 = x.entries.length) (he : ∀ e ∈ y.entries, e ∈ x.entries) : y.listLaw := by
  obtain ⟨h1, -, h3⟩ := h
  refine ⟨by omega, fun e hm => ?_, fun hp => ?_⟩
  · have := List.length_pos_of_mem hm
    rw [List.length_dropLast] at this
    omega
  · obtain ⟨h4, h5⟩ := h3 (hc ▸ hp)
    exact ⟨by omega, fun e hm => h5 e (he e hm)⟩

/-- An entry given up, past changes beside the lanes and berths: a void or a commit (R62, R78). -/
theorem State.giveUpEntry_keepsPlaces {s t : State} {l : LaneId} {e : Entry} {rest : List Entry} {y : Lane}
    (m : Holding) (ha : Aside s t) (hr : y.role = (s.lane l).role) (hc : y.ctx = (s.lane l).ctx)
    (hy : y.entries = rest) (hm : e ∈ (s.lane l).entries) (hl : rest.length + 1 = (s.lane l).entries.length)
    (hs : ∀ x ∈ rest, x ∈ (s.lane l).entries) : KeepsPlaces s ((t.setLane l y).sendHolding e.berth l m) := by
  have hlane := ha.lane l
  refine ha.keepsPlaces.trans (State.giveUp_keepsPlaces e.berth m ?_ ?_ ?_ ?_ fun h => ?_)
  · rw [hlane, hr]
  · rw [hlane, Lane.holdings, Lane.holdings, hc, hy]; omega
  · rw [hlane, hy]; exact hs
  · rw [hlane]
    exact fun h => Lane.listLaw_without h hc (hy.symm ▸ hl) (hy.symm ▸ hs)
  · rw [hlane]
    have := ((placeLaw_iff t).mp h).entries l e
    rw [hlane] at this
    exact this hm

theorem State.voidEntry_keepsPlaces (s : State) (l : LaneId) {e : Entry} {rest : List Entry} (r : VoidReason)
    (hm : e ∈ (s.lane l).entries) (hl : rest.length + 1 = (s.lane l).entries.length)
    (hs : ∀ x ∈ rest, x ∈ (s.lane l).entries) : KeepsPlaces s (s.voidEntry l e rest r) :=
  State.giveUpEntry_keepsPlaces (t := (s.appendReserved (e.voidContent l s.clock.calendar r)).releaseUse e.tokenId)
    .release ⟨rfl, rfl, rfl⟩ rfl rfl rfl hm hl hs

theorem State.commitEntry_keepsPlaces (s : State) (l : LaneId) {e : Entry} {rest : List Entry}
    (hm : e ∈ (s.lane l).entries) (hl : rest.length + 1 = (s.lane l).entries.length)
    (hs : ∀ x ∈ rest, x ∈ (s.lane l).entries) : KeepsPlaces s (s.commitEntry l e rest) :=
  State.giveUpEntry_keepsPlaces (t := (s.appendReserved (e.commitRecord l s.clock.calendar)).withTaps
      (tapCommit s.taps e.tokenId (e.tableAdmission l s.clock.calendar (s.lane l).settings.homeLine) s.now))
    .commit ⟨rfl, rfl, rfl⟩ rfl rfl rfl hm hl hs

theorem State.voidList_keepsPlaces (l : LaneId) (r : VoidReason) (es : List Entry) (s : State)
    (h : (s.lane l).entries = es) : KeepsPlaces s (s.voidList l r es) := by
  induction es generalizing s with
  | nil => exact .refl s
  | cons e rest ih =>
    refine (s.voidEntry_keepsPlaces l r ?_ ?_ ?_).trans (ih _ (s.voidEntry_entries l e rest r)) <;> rw [h]
    · exact List.mem_cons_self ..
    · rfl
    · exact fun x hx => List.mem_cons_of_mem _ hx

theorem State.dropIfOffer_keepsPlaces (s : State) (l : LaneId) : KeepsPlaces s (s.dropIfOffer l) := by
  unfold State.dropIfOffer
  split
  · rename_i o ho; exact s.dropOffer_keepsPlaces l ho
  all_goals exact .refl s

theorem State.endHoldings_keepsPlaces (s : State) (l : LaneId) (r : VoidReason) : KeepsPlaces s (s.endHoldings l r) :=
  (s.dropIfOffer_keepsPlaces l).trans (State.voidList_keepsPlaces l r _ _ rfl)

theorem State.endBerthHoldings_keepsPlaces (b : BerthId) (r : VoidReason) (ls : List LaneId) (s : State) :
    KeepsPlaces s (s.endBerthHoldings b r ls) := by
  induction ls generalizing s with
  | nil => exact .refl s
  | cons l rest ih =>
    unfold State.endBerthHoldings
    split
    · exact (s.endHoldings_keepsPlaces l r).trans (ih _)
    · exact ih s

theorem State.endEveryHolding_keepsPlaces (ls : List LaneId) (s : State) : KeepsPlaces s (s.endEveryHolding ls) := by
  induction ls generalizing s with
  | nil => exact .refl s
  | cons l rest ih => exact (s.endHoldings_keepsPlaces l .restart).trans (ih _)

theorem State.releaseHoldings_keepsPlaces (s : State) (b : BerthId) (r : VoidReason) :
    KeepsPlaces s (s.releaseHoldings b r) :=
  (State.endBerthHoldings_keepsPlaces b r _ s).trans (State.takeAllInFlight_keepsPlaces _ b)

/-! ## A berth with nothing held -/

theorem State.updCall_lane (s : State) (b : BerthId) (f : Call → Call) (l : LaneId) :
    (s.updCall b f).lane l = s.lane l := by
  cases hc : s.call b with
  | none => rw [State.updCall_none hc]
  | some c => rw [State.updCall_some hc, State.setCall_lane]

/-- After a release of holdings every lane of the berth is ended, and every other lane as it was (R64). -/
theorem State.releaseHoldings_lane (s : State) (b : BerthId) (r : VoidReason) (l : LaneId) :
    (s.releaseHoldings b r).lane l
      = if (s.lane l).role.boards = some b then (s.lane l).dropped.voided else s.lane l := by
  unfold State.releaseHoldings State.takeAllInFlight
  rw [State.updCall_lane, State.endBerthHoldings_lane b r LaneId.list_nodup]
  simp only [LaneId.mem_list l, true_and]

/-- After it no place is held on the berth. -/
theorem State.releaseHoldings_placesHeld (s : State) (b : BerthId) (r : VoidReason) :
    (s.releaseHoldings b r).placesHeld b = 0 := by
  have h : ∀ l, ((s.releaseHoldings b r).lane l).placesOn b = 0 := fun l => by
    rw [State.releaseHoldings_lane]
    split
    · exact Lane.placesOn_of_empty (Lane.dropped_voided_holdings _) b
    · rename_i hb; exact Lane.placesOn_elsewhere hb
  have h0 : ∀ l : LaneId, (PerLane.all 0).get l = 0 := fun l => PerLane.get_all 0 l
  exact (PerLane.sum_congr (g := id) (q := PerLane.all 0) fun l => (h l).trans (h0 l).symm).trans rfl

theorem State.setCall_placesHeld (s : State) (b k : BerthId) (o : Option Call) :
    (s.setCall b o).placesHeld k = s.placesHeld k := State.placesHeld_congr fun l => by rw [State.setCall_lane]

/-- A berth's record replaced where no place is held on it: by VACANT, or by a call with nothing reserved and nothing on
its way. -/
theorem State.setCall_empty_keepsPlaces {s : State} {b : BerthId} {o : Option Call} (h0 : s.placesHeld b = 0)
    (ho : ∀ c, o = some c → c.reserved = 0 ∧ c.inFlight = []) : KeepsPlaces s (s.setCall b o) := by
  intro hs
  have h := (placeLaw_iff s).mp hs
  refine ⟨(placeLaw_iff _).mpr ⟨fun k c hk => ?_, fun k hk => ?_, fun l => ?_, fun stage hc l => ?_⟩,
    fun hb => ⟨fun l => ?_, fun k c l hk => ?_⟩⟩
  · rw [State.setCall_placesHeld]
    by_cases e : k = b
    · subst e
      rw [State.setCall_call] at hk
      obtain ⟨hr, hf⟩ := ho c hk
      exact ⟨by rw [hr, h0, hf]; rfl, fun _ => hr⟩
    · rw [State.setCall_call_other _ _ e] at hk
      exact h.calls k c hk
  · rw [State.setCall_placesHeld]
    by_cases e : k = b
    · rw [e]; exact h0
    · rw [State.setCall_call_other _ _ e] at hk
      exact h.vacant k hk
  · rw [State.setCall_lane]; exact h.entries l
  · rw [State.setCall_keep] at hc
    rw [State.setCall_lane]
    exact h.cold stage hc l
  · rw [State.setCall_lane]; exact hb.1 l
  · rw [State.setCall_lane]
    by_cases e : k = b
    · subst e
      rw [State.setCall_call] at hk
      have hle := s.lane_placesOn_le l k
      have hf : c.inFlightOf l = 0 := by simp [Call.inFlightOf, (ho c hk).2]
      omega
    · rw [State.setCall_call_other _ _ e] at hk
      exact hb.2 k c l hk

/-- The end of a call with nothing held on its berth (R8). -/
theorem State.endCall_keepsPlaces {s : State} {b : BerthId} (n : Bool) (h0 : s.placesHeld b = 0) :
    KeepsPlaces s (s.endCall b n) := by
  unfold State.endCall
  split
  · exact (State.appendReserved_aside _ _).keepsPlaces.trans (State.setCall_empty_keepsPlaces h0 nofun)
  · exact .refl s

/-- Under the law nothing is held on a berth whose call has nothing reserved, as in HANDOVER, nor on a VACANT one. -/
theorem Places.held_zero {s : State} (h : Places s) {b : BerthId} {c : Call} (hc : s.call b = some c)
    (hr : c.reserved = 0) : s.placesHeld b = 0 := by
  have := (h.calls b c hc).1
  omega

/-- After a release of holdings the call has nothing reserved and nothing on its way (R7). -/
theorem State.releaseHoldings_call {s : State} (h : PlaceLaw s) (b : BerthId) (r : VoidReason) {c : Call}
    (hc : (s.releaseHoldings b r).call b = some c) : c.reserved = 0 ∧ c.inFlight = [] := by
  have hlaw := ((placeLaw_iff _).mp (s.releaseHoldings_keepsPlaces b r h).1).calls b c hc
  have hf : c.inFlight = [] := by
    unfold State.releaseHoldings State.takeAllInFlight at hc
    cases hu : (s.endBerthHoldings b r LaneId.list).call b with
    | none => rw [State.updCall_none hu, hu] at hc; cases hc
    | some d =>
      rw [State.updCall_some hu, State.setCall_call] at hc
      cases hc
      simp [Call.takeWhere_inFlight]
  rw [State.releaseHoldings_placesHeld] at hlaw
  exact ⟨by rw [hlaw.1, hf]; rfl, hf⟩

/-! ## Decisions -/

/-- What a decision may find at a lane: no offer, and a list with room for one more entry (R110). -/
def Lane.mayAdmit (x : Lane) : Prop :=
  x.ctx.offers = 0 ∧ (x.listLaw → x.entries.length ≤ 1 ∧ ∀ e ∈ x.entries, e.phase = .awaitPassage)

/-- A lane whose evaluation waits. -/
theorem Lane.mayAdmit_waiting {x : Lane} {e : Evaluation} {d : Nat} (h : x.ctx = .waiting e d) : x.mayAdmit :=
  ⟨by rw [h]; rfl, fun hl => hl.2.2 (by rw [h]; rfl)⟩

/-- A lane whose list refuses no TAP (R110). -/
theorem Lane.mayAdmit_notBusy {x : Lane} (h : x.ctx.offers = 0) (hb : laneBusy x.entries = false) : x.mayAdmit := by
  simp only [laneBusy, Bool.or_eq_false_iff, decide_eq_false_iff_not, List.any_eq_false, decide_eq_true_eq] at hb
  refine ⟨h, fun _ => ⟨by omega, fun e he => ?_⟩⟩
  cases hp : e.phase
  · exact absurd hp (hb.2 e he)
  · rfl

/-- A REFUSE decided at a lane with no offer (R125). -/
theorem State.decideRefuse_keepsPlaces (s : State) (l : LaneId) (p : Progress) (r : Reason) (d : Option Nat)
    (h : (s.lane l).ctx.offers = 0) : KeepsPlaces s (s.decideRefuse l p r d) := by
  have h1 : KeepsPlaces s (s.updLane l fun x =>
      { x with ctx := .refused (p.refused r d), stats := { x.stats with refused := bump x.stats.refused } }) :=
    s.updLane_keepsPlaces l _ (.of_context rfl rfl h.symm nofun) fun h0 => by
      show 0 + (s.lane l).entries.length = 0
      simpa only [Lane.holdings, h] using h0
  unfold State.decideRefuse
  dsimp only
  refine (h1.trans ?_).trans (State.settle_keepsPlaces _ l)
  split
  · exact (State.askRefusal_aside _ _ _).keepsPlaces
  · exact .refl _

/-- The lane an ADMIT decision leaves before a held TAKE is answered (R124). -/
def Lane.offered (x : Lane) (o : Offer) (now : Nat) : Lane :=
  { x with ctx := .offer o, takeDeadline := some (now + x.settings.writeTimeout) }

theorem Lane.offered_holdings {x : Lane} (h : x.ctx.offers = 0) (o : Offer) (now : Nat) :
    (x.offered o now).holdings = x.holdings + 1 := by
  show 1 + x.entries.length = x.ctx.offers + x.entries.length + 1
  omega

theorem Lane.offered_list {x : Lane} (h : x.mayAdmit) (o : Offer) (now : Nat) (hl : x.listLaw) :
    (x.offered o now).listLaw ∧ (x.offered o now).holdings ≤ 2 := by
  obtain ⟨h1, h2⟩ := h.2 hl
  refine ⟨⟨hl.1, hl.2.1, fun _ => ⟨h1, h2⟩⟩, ?_⟩
  show 1 + x.entries.length ≤ 2
  omega

/-- An ADMIT on a lane that boards at no berth (R124). -/
theorem State.decideOffer_keepsPlaces (s : State) (l : LaneId) (o : Offer) (hrun : s.keep.run = .running)
    (hn : (s.lane l).role.boards = none) (h : (s.lane l).mayAdmit) : KeepsPlaces s (s.decideOffer l o) := by
  refine KeepsPlaces.trans (t := s.setLane l ((s.lane l).offered o s.now)) ?_ (State.settle_keepsPlaces _ l)
  refine keepsPlaces_of (fun k => ?_) (.of_eq fun b => rfl) fun stage hr => absurd (hrun.symm.trans hr) (by simp)
  by_cases e : k = l
  · subst e
    rw [State.setLane_lane]
    refine ⟨fun b => ?_, id, fun hl => (Lane.offered_list h o s.now hl).1⟩
    have hn' : ((s.lane k).offered o s.now).role.boards = none := hn
    exact (Lane.placesOn_elsewhere (by rw [hn']; simp)).trans (Lane.placesOn_elsewhere (by rw [hn]; simp)).symm
  · rw [State.setLane_other _ _ e]; exact .refl _

/-- What a place claim can do (R24, R25): refused at a berth that does not admit, or judged on the call with the lane's
own messages taken. -/
theorem State.claimPlace_cases (s : State) (b : BerthId) (l : LaneId) :
    (∃ r, s.claimPlace b l = (s, some r))
    ∨ ∃ c, s.call b = some c ∧ c.stage = .boarding
        ∧ (s.claimPlace b l = (s.setCall b (some { c.takeWhere (fun k => decide (k = l)) with
              reserved := (c.takeWhere fun k => decide (k = l)).reserved + 1 }), none)
          ∨ s.claimPlace b l = (s.setCall b (some (c.takeWhere fun k => decide (k = l))), some .full)) := by
  cases ha : admissionRefusal (s.call b) with
  | some r => exact .inl ⟨r, State.claimPlace_closed l ha⟩
  | none =>
    cases hc : s.call b with
    | none => rw [hc] at ha; cases ha
    | some c =>
      have hg : c.suspended = false ∧ c.stage = .boarding := by
        rw [hc] at ha
        cases hs : c.suspended <;> cases hst : c.stage <;> simp_all [admissionRefusal]
      refine .inr ⟨c, rfl, hg.2, ?_⟩
      by_cases hr : (c.takeWhere fun k => decide (k = l)).onBoard + (c.takeWhere fun k => decide (k = l)).reserved
          < (c.takeWhere fun k => decide (k = l)).effectiveCap
      · exact .inl (State.claimPlace_room hc hg.1 hg.2 rfl hr)
      · exact .inr (State.claimPlace_full hc hg.1 hg.2 rfl (Nat.not_lt.mp hr))

/-- A change of a call and of a lane need no order. -/
theorem State.setCall_setLane (s : State) (b : BerthId) (c : Option Call) (l : LaneId) (x : Lane) :
    (s.setCall b c).setLane l x = (s.setLane l x).setCall b c := by
  simp only [State.setCall_eq]
  rfl

/-- The third claim and the verdict (R123, R124). -/
theorem State.decidePlace_keepsPlaces (s : State) (l : LaneId) (e : Evaluation) (o : Offer)
    (hrun : s.keep.run = .running) (h : (s.lane l).mayAdmit) : KeepsPlaces s (s.decidePlace l e o) := by
  cases hb : (s.lane l).role.boards with
  | none =>
    have hd : s.decidePlace l e o = s.decideOffer l o := by simp only [State.decidePlace, hb]
    rw [hd]
    exact s.decideOffer_keepsPlaces l o hrun hb h
  | some b =>
    have hrefuse : ∀ (t : State) (r : Reason), KeepsPlaces s t → t.lane l = s.lane l →
        KeepsPlaces s ((t.releaseSlot.releaseUse e.token.id).decideRefuse l (e.progress o.flags) r none) :=
      fun t r ht hl => (ht.trans (t.releaseSlot_aside.trans (State.releaseUse_aside _ _)).keepsPlaces).trans
        (State.decideRefuse_keepsPlaces _ l _ r none (by
          show (t.lane l).ctx.offers = 0
          rw [hl]; exact h.1))
    rcases s.claimPlace_cases b l with ⟨r, hc⟩ | ⟨c, hc0, hg, hc | hc⟩
    · rw [State.decidePlace_refused hb hc]
      exact hrefuse s r (.refl s) rfl
    · rw [State.decidePlace_granted hb hc]
      refine KeepsPlaces.trans ?_ (State.settle_keepsPlaces _ l)
      have hset : ∀ d, (s.setCall b d).updLane l (fun x =>
          { x with ctx := .offer o, takeDeadline := some ((s.setCall b d).now + x.settings.writeTimeout) })
            = (s.setLane l ((s.lane l).offered o s.now)).setCall b d := fun d => by
        rw [← State.setCall_setLane]
        simp only [State.updLane, State.setCall_lane, State.setCall_now, Lane.offered]
      rw [hset]
      exact State.admit_keepsPlaces hrun hb hc0 (by rw [hg]; simp) rfl (Lane.offered_holdings h.1 o s.now) rfl
        (Lane.offered_list h o s.now)
    · rw [State.decidePlace_refused hb hc]
      exact hrefuse _ _ (State.setCall_keepsPlaces hc0 (c.takeWhere_samePlaces _)) (State.setCall_lane _ _ _ l)

/-- Checks 9 to 11 (R120 to R124). -/
theorem State.decideClaims_keepsPlaces (s : State) (l : LaneId) (e : Evaluation) (flags : DenyFlags)
    (hrun : s.keep.run = .running) (h : (s.lane l).mayAdmit) : KeepsPlaces s (s.decideClaims l e flags) := by
  unfold State.decideClaims
  split
  · exact s.decideRefuse_keepsPlaces l _ _ _ h.1
  · split
    · exact s.decideRefuse_keepsPlaces l _ _ _ h.1
    · split
      · exact ((s.withTaps_aside _).trans (State.releaseUse_aside _ _)).keepsPlaces.trans
          (State.decideRefuse_keepsPlaces _ l _ _ _ h.1)
      · exact ((s.withTaps_aside _).trans (State.withLog_aside _ _)).keepsPlaces.trans
          (State.decidePlace_keepsPlaces _ l _ _ hrun h)

theorem State.applyPolicy_keepsPlaces (s : State) (l : LaneId) (e : Evaluation) (hrun : s.keep.run = .running)
    (h : (s.lane l).mayAdmit) : KeepsPlaces s (s.applyPolicy l e) := by
  unfold State.applyPolicy
  split
  · exact s.decideClaims_keepsPlaces l e _ hrun h
  · exact s.decideRefuse_keepsPlaces l _ _ _ h.1

theorem State.decideLookup_keepsPlaces (s : State) (l : LaneId) (e : Evaluation) (o : LookupOutcome)
    (hrun : s.keep.run = .running) (h : (s.lane l).mayAdmit) : KeepsPlaces s (s.decideLookup l e o) := by
  unfold State.decideLookup
  split
  · exact s.decideClaims_keepsPlaces l e _ hrun h
  · exact s.decideClaims_keepsPlaces l e _ hrun h
  · exact s.decideRefuse_keepsPlaces l _ _ _ h.1
  · exact s.applyPolicy_keepsPlaces l e hrun h

end Sys2Proof.Machine
end

section
/-!
PROOF. Every event of the lanes, the berths and the station port keeps the law of the places and the bound (R2).
-/
namespace Sys2Proof.Machine

/-! ## How an event reaches its block -/

theorem State.whenRunning_keepsPlaces {s : State} {f : State → State}
    (h : s.keep.run = .running → KeepsPlaces s (f s)) : KeepsPlaces s (s.whenRunning f) := by
  by_cases hr : s.keep.run = .running
  · rw [State.whenRunning_of hr]; exact h hr
  · rw [State.whenRunning_not hr]; exact .refl s

theorem State.onLane_keepsPlaces {s : State} {l : LaneId} {f : State → State}
    (h : s.keep.run = .running → KeepsPlaces s (f s)) : KeepsPlaces s (s.onLane l f) := by
  refine State.whenRunning_keepsPlaces fun hr => ?_
  split
  · exact .refl s
  · exact h hr

theorem State.onTransfer_keepsPlaces {s : State} {f : State → State}
    (h : s.collect.keep.run = .running → KeepsPlaces s.collect (f s.collect)) : KeepsPlaces s (s.onTransfer f) := by
  unfold State.onTransfer
  split
  · rename_i hr
    exact (s.withStation_aside _).keepsPlaces.trans (h hr)
  all_goals exact (s.withStation_aside _).keepsPlaces

theorem State.onStation_keepsPlaces {α : Type} {s : State} {cmd : Command} {fields : Fields α}
    {f : α → State → State × Answer} (h : ∀ (a : α) (t : State), KeepsPlaces t (f a t).1) :
    KeepsPlaces s (s.onStation cmd fields f) := by
  refine State.onTransfer_keepsPlaces fun _ => ?_
  cases fields with
  | misfit => exact (State.withStation_aside _ _).keepsPlaces
  | fit a => exact (h a _).trans (State.withStation_aside _ _).keepsPlaces

theorem onLaneCode_keepsPlaces (code : Nat) (s : State) {f : LaneId → State × Answer}
    (h : ∀ l, KeepsPlaces s (f l).1) : KeepsPlaces s (onLaneCode code s f).1 := by
  unfold onLaneCode
  split
  · exact h _
  · exact .refl s

theorem onBerthCode_keepsPlaces (code : Nat) (s : State) {f : BerthId → State × Answer}
    (h : ∀ b, KeepsPlaces s (f b).1) : KeepsPlaces s (onBerthCode code s f).1 := by
  unfold onBerthCode
  split
  · exact h _
  · exact .refl s

/-- A berth replaced with its record as it was: its plan or its reply. -/
theorem State.setBerth_keepsPlaces (s : State) (b : BerthId) {x : Berth} (h : x.call = s.call b) :
    KeepsPlaces s (s.setBerth b x) := by
  refine keepsPlaces_of (fun l => .refl _) (.of_eq fun k => ?_) fun stage hr => ⟨stage, hr, fun l h0 => h0⟩
  by_cases e : k = b
  · subst e; rw [State.setBerth_call, h]
  · rw [State.setBerth_call_other _ _ e]

theorem State.setPlan_keepsPlaces (s : State) (b : BerthId) (p : Option Plan) : KeepsPlaces s (s.setPlan b p) :=
  s.setBerth_keepsPlaces b rfl

theorem State.replyDock_keepsPlaces (s : State) (b : BerthId) (r : Option DockReply) :
    KeepsPlaces s (s.replyDock b r) :=
  s.setBerth_keepsPlaces b rfl

theorem Call.heard_samePlaces (c : Call) (now : Nat) : c.SamePlaces (c.heard now) := by
  unfold Call.heard
  split
  · exact .refl c
  · exact .of_still rfl rfl .inl

theorem State.onDock_keepsPlaces {α : Type} {s : State} {b : BerthId} {fields : Fields α}
    {f : α → State → State × DockReply} (h : ∀ (a : α) (t : State), KeepsPlaces t (f a t).1) :
    KeepsPlaces s (s.onDock b fields f) := by
  refine State.whenRunning_keepsPlaces fun _ => ?_
  have h1 := s.updCall_keepsPlaces b fun c => c.heard_samePlaces s.now
  cases fields with
  | misfit => exact h1.trans (State.replyDock_keepsPlaces _ b _)
  | fit a => exact (h1.trans (h a _)).trans (State.replyDock_keepsPlaces _ b _)

/-! ## TAP, TAKE, WROTE -/

/-- What a taken TAP leaves in its lane's context is no offer (R45). -/
theorem State.clearForTap_spec (s : State) (l : LaneId) :
    KeepsPlaces s (s.clearForTap l) ∧ (s.clearForTap l).keep = s.keep
      ∧ ((s.clearForTap l).lane l).ctx.offers = 0 := by
  cases h : (s.lane l).ctx <;> simp only [State.clearForTap, h]
  case free => exact ⟨.refl s, trivial, rfl⟩
  case waiting e d =>
    refine ⟨(s.cancelEvaluation_keepsPlaces l (by rw [h]; rfl)).trans (State.countLane_still _ l _),
      ((s.cancelEvaluation_quiet l).trans (State.countLane_quiet _ l _)).keep, ?_⟩
    simp [State.countLane, State.cancelEvaluation, State.setContext, Context.offers]
  case offer o =>
    exact ⟨s.dropOffer_keepsPlaces l h, (s.dropOffer_quiet l o).keep, by rw [s.dropOffer_lane h, Lane.dropped_offers]⟩
  case refused r =>
    refine ⟨s.setContext_keepsPlaces l (by rw [h]; rfl) rfl rfl, rfl, ?_⟩
    simp [State.setContext, Context.offers]

/-- A TAP past check 3 found a list that refuses no TAP (R110). -/
theorem State.judgeTap_notBusy {s : State} {l : LaneId} {t : TokenRecord} {e : Evaluation}
    (h : s.judgeTap l t = .pass e) : laneBusy (s.lane l).entries = false := by
  unfold State.judgeTap at h
  cases hb : laneBusy (s.lane l).entries
  · rfl
  · simp only [hb, if_true] at h
    split at h
    · cases h
    · split at h <;> cases h

/-- A lookup queued (R115): the context waits at a list with room. -/
theorem State.queueLookup_keepsPlaces (s : State) (l : LaneId) (e : Evaluation) (h : (s.lane l).mayAdmit) :
    KeepsPlaces s (s.queueLookup l e) := by
  refine ((s.withDeny_aside _).trans (State.arbitrate_aside _)).keepsPlaces.trans
    (State.updLane_keepsPlaces _ l _ (.of_context rfl rfl h.1.symm fun _ hl => h.2 hl) fun h0 => ?_)
  show 0 + (s.lane l).entries.length = 0
  have h0 : (s.lane l).holdings = 0 := h0
  simpa only [Lane.holdings, h.1] using h0

theorem State.startEvaluation_keepsPlaces (s : State) (l : LaneId) (t : TokenRecord) (hrun : s.keep.run = .running)
    (h : (s.lane l).ctx.offers = 0) : KeepsPlaces s (s.startEvaluation l t) := by
  unfold State.startEvaluation
  split
  · exact s.decideRefuse_keepsPlaces l _ _ _ h
  · rename_i e he
    have hm := Lane.mayAdmit_notBusy h (State.judgeTap_notBusy he)
    unfold State.denyCheck
    split
    · exact s.applyPolicy_keepsPlaces l e hrun hm
    · exact s.decideClaims_keepsPlaces l e _ hrun hm
    · exact s.queueLookup_keepsPlaces l e hm

theorem State.takeTap_keepsPlaces (s : State) (l : LaneId) (t : TokenRecord) (hrun : s.keep.run = .running) :
    KeepsPlaces s (s.takeTap l t) := by
  have h1 : KeepsPlaces s (s.updLane l fun x =>
      { x with stats := { x.stats with taps := bump x.stats.taps }, reply := some .tapStarted }) :=
    s.updLane_still l _ fun _ => ⟨rfl, rfl, rfl⟩
  obtain ⟨h2, hk, ho⟩ := State.clearForTap_spec (s.updLane l fun x =>
    { x with stats := { x.stats with taps := bump x.stats.taps }, reply := some .tapStarted }) l
  exact (h1.trans h2).trans (State.startEvaluation_keepsPlaces _ l t ((congrArg Keep.run hk).trans hrun) ho)

/-- A list after its AWAIT_WRITE entry moved on (R57, R59): no entry is worse placed. -/
theorem replaceFirst_keeps {f : Entry → Entry} (p : Entry → Bool) (hb : ∀ e, (f e).berth = e.berth)
    (hp : ∀ e, (f e).phase = .awaitPassage) (es : List Entry) :
    List.Forall₂ (fun e d => d.berth = e.berth ∧ (e.phase = .awaitPassage → d.phase = .awaitPassage)) es
      (replaceFirst p f es) := by
  induction es with
  | nil => exact .nil
  | cons e rest ih =>
    unfold replaceFirst
    split
    · exact .cons ⟨hb e, fun _ => hp e⟩ (List.forall₂_same.mpr fun _ _ => ⟨rfl, id⟩)
    · exact .cons ⟨rfl, id⟩ ih

/-- What holds of every entry of a list, carried along. -/
theorem forall_of_forall₂ {α : Type} {R : α → α → Prop} {P Q : α → Prop} {xs ys : List α} (h : List.Forall₂ R xs ys)
    (hx : ∀ x ∈ xs, P x) (hpq : ∀ x y, R x y → P x → Q y) : ∀ y ∈ ys, Q y := by
  induction h with
  | nil => exact nofun
  | cons hr _ ih =>
    intro y hy
    rcases List.mem_cons.mp hy with rfl | hy
    · exact hpq _ _ hr (hx _ (List.mem_cons_self ..))
    · exact ih (fun x hm => hx x (List.mem_cons_of_mem _ hm)) y hy

theorem forall₂_dropLast {α : Type} {R : α → α → Prop} {xs ys : List α} (h : List.Forall₂ R xs ys) :
    List.Forall₂ R xs.dropLast ys.dropLast := by
  induction h with
  | nil => exact .nil
  | cons hr ht ih =>
    cases ht with
    | nil => exact .nil
    | cons hr' ht' => exact .cons hr ih

/-- The lane's AWAIT_WRITE entry moved to AWAIT_PASSAGE. -/
theorem Lane.writeEnded_samePlaces (x : Lane) (c : Confirmation) (now : Nat) : x.SamePlaces (x.writeEnded c now) := by
  have h := replaceFirst_keeps (f := fun e => e.toPassage c (now + x.settings.passageTimeout * 1000)) Entry.awaitsWrite
    (fun _ => rfl) (fun _ => rfl) x.entries
  have hlen := h.length_eq
  refine ⟨fun b => ?_, fun he => forall_of_forall₂ h he fun a d hr ha => hr.1.trans ha, fun hl => ?_⟩
  · simp only [Lane.placesOn, Lane.holdings, Lane.writeEnded, ← hlen]
  · obtain ⟨h1, h2, h3⟩ := hl
    refine ⟨hlen ▸ h1, forall_of_forall₂ (forall₂_dropLast h) h2 fun a d hr ha => hr.2 ha, fun hp => ?_⟩
    obtain ⟨h4, h5⟩ := h3 hp
    exact ⟨hlen ▸ h4, forall_of_forall₂ h h5 fun a d hr ha => hr.2 ha⟩

theorem State.writeEnded_keepsPlaces (s : State) (l : LaneId) (c : Confirmation) :
    KeepsPlaces s (s.updLane l fun x => x.writeEnded c s.now) := by
  refine s.updLane_keepsPlaces l _ (Lane.writeEnded_samePlaces _ c s.now) fun h0 => ?_
  have hlen := (replaceFirst_keeps (f := fun e => e.toPassage c (s.now + (s.lane l).settings.passageTimeout * 1000))
    Entry.awaitsWrite (fun _ => rfl) (fun _ => rfl) (s.lane l).entries).length_eq
  simpa only [Lane.holdings, Lane.writeEnded, ← hlen] using h0

/-- An entry found and taken out of a list (R58, R77). -/
theorem entries_found {p : Entry → Bool} {es : List Entry} {e : Entry} (h : es.find? p = some e) :
    e ∈ es ∧ (es.eraseP p).length + 1 = es.length ∧ ∀ x ∈ es.eraseP p, x ∈ es := by
  have hm := List.mem_of_find?_eq_some h
  refine ⟨hm, ?_, fun x hx => List.mem_of_mem_eraseP hx⟩
  rw [List.length_eraseP_of_mem hm (List.find?_some h)]
  have := List.length_pos_of_mem hm
  omega

/-- An entry picked out of a list (R60). -/
theorem pickEntry_some {w : WhichEntry} {es rest : List Entry} {e : Entry} (h : pickEntry w es = some (e, rest)) :
    e ∈ es ∧ rest.length + 1 = es.length ∧ ∀ x ∈ rest, x ∈ es := by
  unfold pickEntry at h
  split at h <;> cases h <;> simp +contextual

/-! ## Passages -/

theorem Call.tailgate_samePlaces (c : Call) : c.SamePlaces c.tailgate := .of_still rfl rfl .inl

theorem Call.alight_samePlaces (c : Call) : c.SamePlaces c.alight := by
  unfold Call.alight
  split <;> exact .of_still rfl rfl .inl

theorem State.passAtBerth_keepsPlaces (s : State) (b : BerthId) {f : Call → Call} (h : ∀ c : Call, c.SamePlaces (f c)) :
    KeepsPlaces s (s.passAtBerth b f) := by
  unfold State.passAtBerth
  split
  · rename_i c hc; exact State.setCall_keepsPlaces hc (h c)
  · exact (s.count_aside _).keepsPlaces

theorem State.takePassage_keepsPlaces (s : State) (l : LaneId) : KeepsPlaces s (s.takePassage l) := by
  have hmatch : KeepsPlaces s (s.matchPassage l) := by
    unfold State.matchPassage
    split
    · rename_i e he
      obtain ⟨h1, h2, h3⟩ := entries_found he
      exact s.commitEntry_keepsPlaces l h1 h2 h3
    · unfold State.tailgate
      dsimp only
      have h1 := (s.appendUnreserved_aside (.tailgate s.clock.calendar l (s.lane l).role.boards)).keepsPlaces.trans
        (State.countLane_still _ l fun x => { x with tailgates := bump x.tailgates })
      split
      · exact h1.trans (State.passAtBerth_keepsPlaces _ _ Call.tailgate_samePlaces)
      · exact h1
  unfold State.takePassage
  split
  · exact .refl s
  · exact s.passAtBerth_keepsPlaces _ Call.alight_samePlaces
  · exact s.passAtBerth_keepsPlaces _ Call.alight_samePlaces
  all_goals exact hmatch

/-! ## The berths -/

/-- The call an accepted ARRIVE opens has nothing reserved (R9, R10). -/
theorem openedCall_empty (a : ArriveArgs) (plan : Option Plan) (arrival : Option CalTime) (now : Nat) :
    (openedCall a plan arrival now).reserved = 0 ∧ (openedCall a plan arrival now).inFlight = [] := by
  unfold openedCall
  split
  · split <;> exact ⟨rfl, rfl⟩
  · exact ⟨rfl, rfl⟩

theorem State.openCall_keepsPlaces (s : State) (b : BerthId) (a : ArriveArgs) (h0 : PlaceLaw s → s.placesHeld b = 0) :
    KeepsPlaces s (s.openCall b a).1 := by
  intro hs
  unfold State.openCall
  split
  · split
    · exact KeepsPlaces.refl s hs
    · rename_i g _
      have h1 := (s.withLog_aside g).keepsPlaces.trans (State.setCall_empty_keepsPlaces (s := s.withLog g)
        (o := some (openedCall a (s.berth b).plan s.clock.calendar s.now)) (h0 hs) fun c hc => by
          cases hc; exact openedCall_empty _ _ _ _)
      dsimp only
      split
      · exact (h1.trans (State.setPlan_keepsPlaces _ b none)) hs
      · exact h1 hs
  · exact KeepsPlaces.refl s hs

theorem State.endCall_placesHeld (s : State) (b k : BerthId) (n : Bool) :
    (s.endCall b n).placesHeld k = s.placesHeld k := by
  unfold State.endCall
  split
  · rw [State.setCall_placesHeld]; rfl
  · rfl

/-- A call ended with its holdings released: FORCE_VACATE, and an arrival that replaces (R23, R36). -/
theorem State.vacate_keepsPlaces (s : State) (b : BerthId) (r : VoidReason) (n : Bool) :
    KeepsPlaces s ((s.releaseHoldings b r).endCall b n) :=
  (s.releaseHoldings_keepsPlaces b r).trans (State.endCall_keepsPlaces n (s.releaseHoldings_placesHeld b r))

theorem State.takeArrive_keepsPlaces (s : State) (b : BerthId) (a : ArriveArgs) :
    KeepsPlaces s (s.takeArrive b a).1 := by
  unfold State.takeArrive
  split
  · rename_i hc
    exact s.openCall_keepsPlaces b a fun hs => ((placeLaw_iff s).mp hs).vacant b hc
  · rename_i c hc
    split
    · split
      · exact State.setCall_keepsPlaces hc (.of_still rfl rfl .inl)
      · unfold State.replaceVessel
        split
        · refine (s.vacate_keepsPlaces b .linkLost true).trans (State.openCall_keepsPlaces _ b a fun _ => ?_)
          rw [State.endCall_placesHeld, State.releaseHoldings_placesHeld]
        · exact .refl s
    · split <;> exact .refl s

theorem State.takeRampOpen_keepsPlaces (s : State) (b : BerthId) : KeepsPlaces s (s.takeRampOpen b).1 := by
  unfold State.takeRampOpen
  split
  · exact .refl s
  · rename_i c hc
    split
    · exact .refl s
    · split
      · exact State.setCall_keepsPlaces hc (.of_still rfl rfl nofun)
      all_goals exact .refl s

/-- A closing comes to HANDOVER only with nothing reserved (R16). -/
theorem Call.close_samePlaces (c : Call) (now grace : Nat) : c.SamePlaces (c.close now grace) := by
  unfold Call.close
  split
  · rename_i h0; exact .of_still rfl rfl fun _ => .inr h0
  · exact .of_still rfl rfl nofun

theorem State.takeDepartReq_keepsPlaces (s : State) (b : BerthId) : KeepsPlaces s (s.takeDepartReq b).1 := by
  unfold State.takeDepartReq
  split
  · exact .refl s
  · rename_i c hc
    split
    · exact .refl s
    · split
      · exact State.setCall_keepsPlaces hc (c.close_samePlaces _ _)
      · exact State.setCall_keepsPlaces hc (c.close_samePlaces _ _)
      all_goals exact .refl s

theorem State.takeHandover_keepsPlaces (s : State) (b : BerthId) : KeepsPlaces s (s.takeHandover b).1 := by
  unfold State.takeHandover
  split
  · exact .refl s
  · rename_i c hc
    split
    · exact .refl s
    · split
      · rename_i hg
        intro hs
        have h := (placeLaw_iff s).mp hs
        exact State.endCall_keepsPlaces false (h.held_zero hc ((h.calls b c hc).2 hg)) hs
      all_goals exact .refl s

theorem State.closingDeadline_keepsPlaces (s : State) (b : BerthId) :
    KeepsPlaces s ((s.releaseHoldings b .closed).updCall b Call.graceExpired) := by
  intro hs
  refine (s.releaseHoldings_keepsPlaces b .closed).trans ?_ hs
  cases hc : (s.releaseHoldings b .closed).call b with
  | none => rw [State.updCall_none hc]; exact .refl _
  | some c =>
    have he := State.releaseHoldings_call hs b .closed hc
    rw [State.updCall_some hc]
    exact State.setCall_empty_keepsPlaces (s.releaseHoldings_placesHeld b _) fun d hd => by cases hd; exact he

theorem State.takeSetCap_keepsPlaces (s : State) (b : BerthId) (cap : Nat) : KeepsPlaces s (s.takeSetCap b cap).1 := by
  unfold State.takeSetCap
  split
  · split
    · exact .refl s
    · rename_i c hc; exact State.setCall_keepsPlaces hc (.of_still rfl rfl .inl)
  · exact .refl s

theorem State.takeClose_keepsPlaces (s : State) (b : BerthId) : KeepsPlaces s (s.takeClose b).1 := by
  unfold State.takeClose
  split
  · exact .refl s
  · rename_i c hc
    have h : c.SamePlaces (if c.suspended then c.closeSuspended s.now s.station.landing.closingGrace
        else c.close s.now s.station.landing.closingGrace) := by
      split
      · exact .of_still rfl rfl nofun
      · exact c.close_samePlaces _ _
    split
    · exact .refl s
    · exact .refl s
    all_goals exact State.setCall_keepsPlaces hc h

theorem State.takeReopen_keepsPlaces (s : State) (b : BerthId) : KeepsPlaces s (s.takeReopen b).1 := by
  unfold State.takeReopen
  split
  · exact .refl s
  · rename_i c hc
    split
    · exact State.setCall_keepsPlaces hc (.of_still rfl rfl nofun)
    all_goals exact .refl s

theorem State.takeVacate_keepsPlaces (s : State) (b : BerthId) : KeepsPlaces s (s.takeVacate b).1 := by
  unfold State.takeVacate
  split
  · exact .refl s
  · exact s.vacate_keepsPlaces b _ _

/-! ## The lanes by the station's orders -/

/-- A role changed at an idle lane, or kept (R41). -/
theorem State.setRole_keepsPlaces (s : State) (l : LaneId) (role : Role) (settings : LaneSettings) :
    KeepsPlaces s (s.setRole l role settings).1 := by
  unfold State.setRole
  split
  · rename_i h
    by_cases hr : role = (s.lane l).role
    · exact s.updLane_keepsPlaces l _ (.of_still hr rfl rfl) id
    · have hi : (s.lane l).idle = true := h.resolve_left hr
      simp only [Lane.idle, Bool.and_eq_true, decide_eq_true_eq, List.isEmpty_iff] at hi
      have h0 : (s.lane l).holdings = 0 := by simp only [Lane.holdings, hi.1, hi.2]; rfl
      refine s.updLane_keepsPlaces l _ ⟨fun b => ?_, fun _ e he => ?_, id⟩ id
      · rw [Lane.placesOn_of_empty h0, Lane.placesOn_of_empty]; exact h0
      · exact absurd (hi.2 ▸ he : e ∈ ([] : List Entry)) (by simp)
  · exact .refl s

theorem State.clearContext_keepsPlaces (s : State) (l : LaneId) : KeepsPlaces s (s.clearContext l) := by
  cases h : (s.lane l).ctx <;> simp only [State.clearContext, h]
  case free => exact .refl s
  case waiting e d =>
    exact (s.cancelEvaluation_keepsPlaces l (by rw [h]; rfl)).trans (State.settle_keepsPlaces _ l)
  case offer o => exact s.dropOffer_keepsPlaces l h
  case refused r => exact s.setContext_keepsPlaces l (by rw [h]; rfl) rfl rfl

theorem State.takeClear_keepsPlaces (s : State) (l : LaneId) : KeepsPlaces s (s.takeClear l).1 :=
  (s.clearContext_keepsPlaces l).trans (State.voidList_keepsPlaces l _ _ _ rfl)

end Sys2Proof.Machine
end

section
/-!
PROOF. Every step keeps the law of the places and the bound of two places a lane (R2, R7, R17): the list flash port, the
restarts, each command, and the step.
-/
namespace Sys2Proof.Machine

/-! ## The list flash port -/

theorem State.latchListDone_aside (s : State) : Aside s s.latchListDone := ⟨rfl, rfl, rfl⟩
theorem State.latchRestarted_aside (s : State) : Aside s s.latchRestarted := ⟨rfl, rfl, rfl⟩

theorem State.createJob_aside (s : State) (j : Job) : Aside s (s.createJob j) :=
  (s.withPort_aside _).trans (State.arbitrate_aside _)

theorem State.carryOut_aside (s : State) : Aside s s.carryOut := by
  unfold State.carryOut
  split
  · exact s.grantRead_aside _
  · exact s.withPort_aside _
  · exact s.withPort_aside _
  · exact .refl s

theorem State.failJob_aside (s : State) (op : Option FlashOp) : Aside s (s.failJob op) := by
  unfold State.failJob
  dsimp only
  split <;> exact ⟨rfl, rfl, rfl⟩

theorem State.eraseGood_aside (s : State) : Aside s s.eraseGood := by
  unfold State.eraseGood
  dsimp only
  split
  · split <;> exact ⟨rfl, rfl, rfl⟩
  all_goals exact ⟨rfl, rfl, rfl⟩

theorem State.eraseEnded_aside (s : State) (good : Bool) : Aside s (s.eraseEnded good) := by
  unfold State.eraseEnded
  split
  · exact s.eraseGood_aside
  · exact s.failJob_aside _

theorem State.commitSwitch_aside (s : State) : Aside s s.commitSwitch :=
  ((s.withDeny_aside _).trans (State.appendUnreserved_aside _ _)).trans (State.latchListDone_aside _)

theorem State.programGood_aside (s : State) : Aside s s.programGood := by
  unfold State.programGood
  dsimp only
  split
  · exact ⟨rfl, rfl, rfl⟩
  · exact ⟨rfl, rfl, rfl⟩
  · exact ((s.withPort_aside _).trans (State.withPort_aside _ _)).trans (State.commitSwitch_aside _)
  · split <;> exact ⟨rfl, rfl, rfl⟩
  all_goals exact ⟨rfl, rfl, rfl⟩

theorem State.programEnded_aside (s : State) (good : Bool) : Aside s (s.programEnded good) := by
  unfold State.programEnded
  split
  · exact s.programGood_aside
  · exact s.failJob_aside _

theorem State.actLimit_aside (s : State) : Aside s s.actLimit := by
  unfold State.actLimit
  split
  · exact s.failJob_aside _
  · exact .refl s

theorem State.suspendEnded_aside (s : State) (status : SuspendStatus) : Aside s (s.suspendEnded status) := by
  cases status with
  | suspended => exact ⟨s.suspendHeld.actLimit_aside.lanes, s.suspendHeld.actLimit_aside.berths,
      s.suspendHeld.actLimit_aside.run⟩
  | ended good =>
    show Aside s (if s.port.eraseLimitReached s.now then s.actLimit else s.eraseEnded good)
    split
    · exact s.actLimit_aside
    · exact s.eraseEnded_aside good

theorem State.rebuildRead_aside (s : State) (res : PageResult) : Aside s (s.rebuildRead res) := by
  unfold State.rebuildRead
  split
  · split <;> exact ⟨rfl, rfl, rfl⟩
  · exact .refl s

/-- A lookup's page read judged: its outcome decides the evaluation that waits for it (R116, R153). -/
theorem State.lookupRead_keepsPlaces (s : State) (res : PageResult) (hrun : s.keep.run = .running) :
    KeepsPlaces s (s.lookupRead res) := by
  unfold State.lookupRead
  split
  · rename_i q rest _
    split
    · rename_i o _
      refine (s.withDeny_aside { s.deny with queue := rest }).keepsPlaces.trans ?_
      show KeepsPlaces _ ((s.withQueue rest).handOutcome q.lane o)
      unfold State.handOutcome
      split
      · rename_i e d he
        exact State.decideLookup_keepsPlaces _ _ e o hrun (Lane.mayAdmit_waiting he)
      all_goals exact .refl _
    · exact (s.withDeny_aside _).keepsPlaces
  · exact .refl s

theorem State.readEnded_keepsPlaces (s : State) (res : PageResult) (who : Requester) (hrun : s.keep.run = .running) :
    KeepsPlaces s (s.readEnded res who) := by
  cases who with
  | lookup => exact (s.lookupRead_keepsPlaces res hrun).trans (State.actLimit_aside _).keepsPlaces
  | withdrawn => exact s.actLimit_aside.keepsPlaces
  | rebuild => exact (s.rebuildRead_aside res).keepsPlaces
  | startUp => exact .refl s

theorem State.endRead_aside (s : State) (reads : FlashReads) : Aside s (s.endRead reads) := ⟨rfl, rfl, rfl⟩

/-! ## The deny list commands -/

theorem State.addToList_aside (s : State) (es : List DenyEntry) : Aside s (s.addToList es).1 := by
  unfold State.addToList
  dsimp only
  have h : Aside s (match (addEntries s.port.job.isSome s.deny none 0 es).flush with
      | some j => (s.withDeny (addEntries s.port.job.isSome s.deny none 0 es).unit).createJob j
      | none => s.withDeny (addEntries s.port.job.isSome s.deny none 0 es).unit) := by
    split
    · exact (s.withDeny_aside _).trans (State.createJob_aside _ _)
    · exact s.withDeny_aside _
  split
  · exact h
  · exact h
  · exact .refl s

theorem State.takeListBegin_aside (s : State) : Aside s s.takeListBegin.1 := by
  unfold State.takeListBegin
  split
  case h_4 | h_5 =>
    split
    · exact .refl s
    · exact (s.withDeny_aside _).trans (State.createJob_aside _ _)
  all_goals exact .refl s

theorem State.takeListCommit_aside (s : State) : Aside s s.takeListCommit.1 := by
  unfold State.takeListCommit
  split
  · exact .refl s
  · split
    · exact .refl s
    · split
      · exact .refl s
      · exact (s.withDeny_aside _).trans (State.createJob_aside _ _)

/-! ## The clock -/

theorem State.withClock_aside (s : State) (c : Clock) : Aside s (s.withClock c) := ⟨rfl, rfl, rfl⟩

theorem State.handDay_aside (s : State) (day : Nat) : Aside s (s.handDay day) := by
  unfold State.handDay
  split <;> exact ⟨rfl, rfl, rfl⟩

theorem State.takeSetClock_aside (s : State) (a : ClockArgs) : Aside s (s.takeSetClock a).1 := by
  unfold State.takeSetClock
  split
  · dsimp only
    refine Aside.trans ?_ (State.appendUnreserved_aside _ _)
    split
    · exact s.withClock_aside _
    · exact (s.withClock_aside _).trans (State.handDay_aside _ _)
  · exact .refl s

/-! ## The restarts -/

/-- The keep unit changed to a condition of the part that is no cold start. -/
theorem State.withKeep_keepsPlaces (s : State) {k : Keep} (h : ∀ stage, k.run ≠ .coldStart stage) :
    KeepsPlaces s (s.withKeep k) := .of_eq rfl rfl fun stage hr => absurd hr (h stage)

theorem State.abandonLinks_keepsPlaces (s : State) : KeepsPlaces s s.abandonLinks := by
  refine (s.withStation_aside _).keepsPlaces.trans (State.mapLanes_still s.dropReply Lane.abandonTake fun x => ?_)
  unfold Lane.abandonTake
  split <;> exact ⟨rfl, rfl, rfl⟩

/-- A lane's evaluation that waits is abandoned (R129). -/
theorem Lane.abandonWaiting_samePlaces (x : Lane) :
    x.SamePlaces { x with ctx := x.ctx.abandonWaiting } ∧ x.ctx.abandonWaiting.offers = x.ctx.offers := by
  cases h : x.ctx
  case waiting e d => exact ⟨.of_context rfl rfl (by rw [h]; rfl) nofun, rfl⟩
  all_goals exact ⟨.of_still rfl h.symm rfl, rfl⟩

/-- A lane's REFUSE is discarded (R68, R129). -/
theorem Lane.discardRefuse_samePlaces (x : Lane) :
    x.SamePlaces { x with ctx := x.ctx.discardRefuse } ∧ x.ctx.discardRefuse.offers = x.ctx.offers := by
  cases h : x.ctx
  case refused r => exact ⟨.of_context rfl rfl (by rw [h]; rfl) nofun, rfl⟩
  all_goals exact ⟨.of_still rfl h.symm rfl, rfl⟩

theorem State.stopWork_keepsPlaces (s : State) : KeepsPlaces s s.stopWork := by
  refine (s.abandonLinks_keepsPlaces.trans (State.mapLanes_keepsPlaces _
    (fun x => { x with ctx := x.ctx.abandonWaiting }) (fun x => x.abandonWaiting_samePlaces.1) fun x h0 => ?_)).trans
    (((State.withDeny_aside _ _).trans (State.withPort_aside _ _)).keepsPlaces)
  simpa only [Lane.holdings, x.abandonWaiting_samePlaces.2] using h0

theorem State.beginWarm_keepsPlaces (s : State) (cause : ResetCause) : KeepsPlaces s (s.beginWarm cause) :=
  ((KeepsPlaces.of_eq (t := s.judgeWarm cause) rfl rfl fun stage hr => ⟨stage, hr⟩).trans
    (State.stopWork_keepsPlaces _)).trans (State.withKeep_keepsPlaces _ nofun)

/-- A cold start empties every lane and berth (R220). -/
theorem State.beginCold_keepsPlaces (s : State) (cause : ResetCause) : KeepsPlaces s (s.beginCold cause) := by
  have hcall : ∀ b, (s.beginCold cause).call b = none := fun b => by cases b <;> rfl
  have hlane : ∀ l, (s.beginCold cause).lane l = (s.lane l).cold := fun l => PerLane.get_map Lane.cold s.lanes l
  have h0 : ∀ l, ((s.beginCold cause).lane l).holdings = 0 := fun l => by rw [hlane]; rfl
  intro _
  refine ⟨(placeLaw_iff _).mpr ⟨fun b c hc => ?_, fun b _ => ?_, fun l e he => ?_, fun _ _ => h0⟩,
    fun _ => ⟨fun l => ?_, fun b c l hc => ?_⟩⟩
  · rw [hcall] at hc; cases hc
  · exact (PerLane.sum_congr (g := id) (q := PerLane.all 0) fun l =>
      (Lane.placesOn_of_empty (h0 l) b).trans (PerLane.get_all 0 l).symm).trans rfl
  · rw [hlane] at he; cases he
  · rw [hlane]; exact ⟨Nat.zero_le _, nofun, nofun⟩
  · rw [hcall] at hc; cases hc

theorem State.beginRestart_keepsPlaces (s : State) (begun : ResetCause) : KeepsPlaces s (s.beginRestart begun) := by
  unfold State.beginRestart
  split
  · exact s.beginWarm_keepsPlaces _
  · exact s.beginCold_keepsPlaces _

theorem State.release_keepsPlaces (s : State) : KeepsPlaces s s.release := by
  unfold State.release
  split
  · split
    · exact s.beginRestart_keepsPlaces _
    · exact .refl s
  all_goals exact .refl s

theorem State.enterHold_keepsPlaces (s : State) : KeepsPlaces s s.enterHold := by
  unfold State.enterHold
  split
  · exact .refl s
  all_goals exact s.abandonLinks_keepsPlaces.trans (State.withKeep_keepsPlaces _ nofun)

theorem Call.restarted_samePlaces (c : Call) (now grace : Nat) : c.SamePlaces (c.restarted now grace) :=
  .of_still rfl rfl .inl

theorem State.endRestartHoldings_keepsPlaces (s : State) : KeepsPlaces s s.endRestartHoldings := by
  refine ((((State.endEveryHolding_keepsPlaces LaneId.list s).trans (State.mapLanes_keepsPlaces _
    (fun x => { x with ctx := x.ctx.discardRefuse }) (fun x => x.discardRefuse_samePlaces.1) fun x h0 => ?_)).trans
    (State.takeAllInFlight_keepsPlaces _ .berthA)).trans (State.takeAllInFlight_keepsPlaces _ .berthB)).trans
    (State.withTaps_aside _ _).keepsPlaces
  simpa only [Lane.holdings, x.discardRefuse_samePlaces.2] using h0

theorem State.startConditioners_keepsPlaces (s : State) (now : Nat) :
    KeepsPlaces s (s.withLanes (s.lanes.map fun x => x.startConditioner now)) :=
  s.mapLanes_still _ fun _ => ⟨rfl, rfl, rfl⟩

theorem State.restartRest_keepsPlaces (s : State) : KeepsPlaces s s.restartRest := by
  refine (s.startConditioners_keepsPlaces s.now).trans (Aside.keepsPlaces ?_)
  unfold State.restartRest
  dsimp only
  split <;> split <;> exact ⟨rfl, rfl, rfl⟩

theorem State.handWaitingDay_aside (s : State) : Aside s s.handWaitingDay := by
  unfold State.handWaitingDay
  split
  · exact s.withTaps_aside _
  · exact .refl s

theorem State.endRestart_keepsPlaces (s : State) : KeepsPlaces s s.endRestart :=
  (s.handWaitingDay_aside.keepsPlaces.trans (State.withKeep_keepsPlaces _ (by simp))).trans
    ((State.latchRestarted_aside _).trans (State.arbitrate_aside _)).keepsPlaces

theorem State.warmStep_keepsPlaces (s : State) (next : WarmStage) : KeepsPlaces s (s.warmStep next) := by
  cases next with
  | suspendCalls =>
    exact ((s.updCall_keepsPlaces .berthA fun c => c.restarted_samePlaces _ _).trans
      (State.updCall_keepsPlaces _ .berthB fun c => c.restarted_samePlaces _ _)).trans
      (State.withKeep_keepsPlaces _ nofun)
  | endHoldings => exact s.endRestartHoldings_keepsPlaces.trans (State.withKeep_keepsPlaces _ nofun)
  | restartRest => exact s.restartRest_keepsPlaces.trans (State.withKeep_keepsPlaces _ nofun)
  | record =>
    exact (s.takeAsked_aside.trans (State.appendUnreserved_aside _ _)).keepsPlaces.trans
      (State.withKeep_keepsPlaces _ nofun)
  | finish => exact s.endRestart_keepsPlaces

/-! ## The cold start -/

theorem State.finishCold_keepsPlaces (s : State) (a b : Option Nat) (op : Option FlashOp) :
    KeepsPlaces s (s.finishCold a b op) :=
  ((((s.withDeny_aside _).trans (State.withPort_aside _ _)).keepsPlaces.trans
    (State.startConditioners_keepsPlaces _ s.now)).trans (State.withKeep_keepsPlaces _ (by simp))).trans
    ((State.latchRestarted_aside _).trans (State.arbitrate_aside _)).keepsPlaces

theorem State.finishUnread_keepsPlaces (s : State) (op : Option FlashOp) : KeepsPlaces s (s.finishUnread op) :=
  (s.count_aside _).keepsPlaces.trans (State.finishCold_keepsPlaces _ _ _ _)

/-- Another stage of a cold start. -/
theorem State.coldStage_keepsPlaces {s : State} {before : ColdStage} (h : s.keep.run = .coldStart before)
    (stage : ColdStage) (op : Option FlashOp) : KeepsPlaces s (s.coldStage stage op) :=
  .of_eq rfl rfl fun _ _ => ⟨before, h⟩

/-- The settings load of a cold start gives roles to lanes that hold nothing (R185, R220). -/
theorem State.loadSettings_keepsPlaces {s : State} {before : ColdStage} (h : s.keep.run = .coldStart before)
    (img : Option SettingsCopy) : KeepsPlaces s (s.loadSettings img) := by
  intro hs
  cases img with
  | none => exact KeepsPlaces.refl s hs
  | some v =>
    have h0 := ((placeLaw_iff s).mp hs).cold before h
    have hl : ∀ l, (s.loadSettings (some v)).lane l = (s.lane l).load (v.lanes.get l) := fun l => by cases l <;> rfl
    have he : ∀ l, (s.lane l).entries = [] := fun l => by
      have := h0 l
      simp only [Lane.holdings] at this
      exact List.length_eq_zero_iff.mp (by omega)
    refine keepsPlaces_of (fun l => ?_) (.of_eq fun b => rfl) (fun stage hr => ⟨stage, hr, fun l hk => ?_⟩) hs
    · rw [hl]
      refine ⟨fun b => ?_, fun _ e hm => ?_, id⟩
      · rw [Lane.placesOn_of_empty (h0 l), Lane.placesOn_of_empty]; exact h0 l
      · exact absurd (he l ▸ hm : e ∈ ([] : List Entry)) (by simp)
    · rw [hl]; exact hk

theorem State.loadSettings_run (s : State) (img : Option SettingsCopy) :
    (s.loadSettings img).keep.run = s.keep.run := by cases img <;> rfl

theorem State.afterImage_keepsPlaces {s : State} {before : ColdStage} (h : s.keep.run = .coldStart before)
    (img : Option SettingsCopy) : KeepsPlaces s (s.afterImage img) :=
  (State.loadSettings_keepsPlaces h img).trans (State.coldStage_keepsPlaces ((s.loadSettings_run img).trans h) _ _)

theorem State.afterContent_keepsPlaces {s : State} {before : ColdStage} (h : s.keep.run = .coldStart before)
    (pages : List Page) : KeepsPlaces s (s.afterContent pages) := by
  unfold State.afterContent
  split
  · exact State.coldStage_keepsPlaces h _ _
  · exact State.afterImage_keepsPlaces h _

theorem State.coldRead_keepsPlaces {s : State} {before : ColdStage} (h : s.keep.run = .coldStart before)
    (res : PageResult) (stage : ColdStage) : KeepsPlaces s (s.coldRead res stage) := by
  cases stage with
  | flashReset => exact .refl s
  | imageHeader =>
    show KeepsPlaces s (if imageHeaderValid res then s.afterContent [] else s.afterImage none)
    split
    · exact State.afterContent_keepsPlaces h _
    · exact State.afterImage_keepsPlaces h _
  | imageContent pages =>
    cases res with
    | good p => exact State.afterContent_keepsPlaces h _
    | erased => exact State.afterImage_keepsPlaces h _
    | unreadable => exact State.afterImage_keepsPlaces h _
  | bankHeaderA => exact State.coldStage_keepsPlaces h _ _
  | bankHeaderB a => exact s.finishCold_keepsPlaces _ _ _

/-! ## The commands -/

/-- The outcome of a command is a state that keeps the laws. -/
def OutcomeKeepsPlaces (s : State) (o : Host.Outcome State Fault Refusal) : Prop :=
  ∀ t, o = .next t → KeepsPlaces s t

theorem KeepsPlaces.next {s u : State} (h : KeepsPlaces s u) : OutcomeKeepsPlaces s (.next u) := fun t ht => by
  cases ht; exact h

/-- A command of a part that runs. -/
theorem KeepsPlaces.whenRunning {s : State} {f : State → State} (h : s.keep.run = .running → KeepsPlaces s (f s)) :
    OutcomeKeepsPlaces s (.next (s.whenRunning f)) := (State.whenRunning_keepsPlaces h).next

theorem KeepsPlaces.onLane {s : State} {l : LaneId} {f : State → State}
    (h : s.keep.run = .running → KeepsPlaces s (f s)) : OutcomeKeepsPlaces s (.next (s.onLane l f)) :=
  (State.onLane_keepsPlaces h).next

theorem KeepsPlaces.onDock {α : Type} {s : State} {b : BerthId} {fields : Fields α}
    {f : α → State → State × DockReply} (h : ∀ (a : α) (t : State), KeepsPlaces t (f a t).1) :
    OutcomeKeepsPlaces s (.next (s.onDock b fields f)) := (State.onDock_keepsPlaces h).next

theorem KeepsPlaces.onStation {α : Type} {s : State} {cmd : Command} {fields : Fields α}
    {f : α → State → State × Answer} (h : ∀ (a : α) (t : State), KeepsPlaces t (f a t).1) :
    OutcomeKeepsPlaces s (.next (s.onStation cmd fields f)) := (State.onStation_keepsPlaces h).next

section
variable (s : State) (l : LaneId) (b : BerthId)

theorem execTap_keepsPlaces (fields : List Byte) : OutcomeKeepsPlaces s (execTap l fields s) := by
  refine .onLane fun hr => ?_
  split
  · exact (s.countLane_still l _).trans (State.replyLane_still _ l _)
  · exact s.takeTap_keepsPlaces l _ hr

theorem execTake_keepsPlaces : OutcomeKeepsPlaces s (execTake l s) := by
  have h : KeepsPlaces s (s.updLane l fun x => x.answerTake s.now) :=
    s.updLane_keepsPlaces l _ (Lane.answerTake_samePlaces _ s.now) fun h0 => (Lane.answerTake_holdings _ s.now).trans h0
  refine .onLane fun _ => ?_
  split
  · exact s.updLane_still l _ fun _ => ⟨rfl, rfl, rfl⟩
  all_goals exact h

theorem execWroteOk_keepsPlaces : OutcomeKeepsPlaces s (execWroteOk l s) := by
  refine .onLane fun _ => ?_
  split
  · exact s.replyLane_still l _
  · have h : KeepsPlaces s ((s.updLane l fun x => x.writeEnded .confirmed s.now).replyLane l (some .wroteOk)) :=
      (s.writeEnded_keepsPlaces l .confirmed).trans (State.replyLane_still _ l _)
    simpa [State.replyLane, State.updLane] using h

theorem execWroteFailed_keepsPlaces : OutcomeKeepsPlaces s (execWroteFailed l s) := by
  refine .onLane fun _ => ?_
  split
  · exact s.replyLane_still l _
  · rename_i e he
    obtain ⟨h1, h2, h3⟩ := entries_found he
    exact (s.voidEntry_keepsPlaces l .writeFailed h1 h2 h3).trans (State.replyLane_still _ l _)

theorem execSilenceDeadline_keepsPlaces : OutcomeKeepsPlaces s (execSilenceDeadline b s) := by
  refine .whenRunning fun _ => ?_
  split
  · exact .refl s
  · rename_i c hc
    split
    · exact State.setCall_keepsPlaces hc (.of_still rfl rfl .inl)
    · exact .refl s

theorem execClosingDeadline_keepsPlaces : OutcomeKeepsPlaces s (execClosingDeadline b s) := by
  refine .whenRunning fun _ => ?_
  split
  · exact .refl s
  · split
    · exact s.closingDeadline_keepsPlaces b
    · exact .refl s

theorem execRawLevelChange_keepsPlaces (level : Level) : OutcomeKeepsPlaces s (execRawLevelChange l level s) := by
  refine .next ?_
  split
  · exact .refl s
  · split <;> exact s.updLane_still l _ fun _ => ⟨rfl, rfl, rfl⟩

theorem execDebounceDeadline_keepsPlaces : OutcomeKeepsPlaces s (execDebounceDeadline l s) := by
  have h : KeepsPlaces s (s.updLane l fun x => { x with cond := x.cond.acceptClear }) :=
    s.updLane_still l _ fun _ => ⟨rfl, rfl, rfl⟩
  refine .whenRunning fun _ => ?_
  split
  · split
    · exact s.updLane_still l _ fun _ => ⟨rfl, rfl, rfl⟩
    · dsimp only
      split
      · exact h.trans (State.latch_aside _ _).keepsPlaces
      · exact h.trans (State.takePassage_keepsPlaces _ l)
  · exact .refl s

theorem execBlockedDeadline_keepsPlaces : OutcomeKeepsPlaces s (execBlockedDeadline l s) := by
  have h : KeepsPlaces s
      (s.updLane l fun x => { x with cond := { x.cond with blocked := true, blockedDeadline := none } }) :=
    s.updLane_still l _ fun _ => ⟨rfl, rfl, rfl⟩
  refine .whenRunning fun _ => ?_
  split
  · exact h.trans (State.latch_aside _ _).keepsPlaces
  · exact .refl s

theorem execVerdictDeadline_keepsPlaces : OutcomeKeepsPlaces s (execVerdictDeadline l s) := by
  refine .whenRunning fun hr => ?_
  have ha := s.withdrawLookup_aside l
  split
  · rename_i e d he
    split
    · refine (ha.keepsPlaces.trans (State.countLane_still _ l _)).trans
        (State.applyPolicy_keepsPlaces _ l e (ha.run.trans hr) (Lane.mayAdmit_waiting (e := e) (d := d) ?_))
      rw [State.countLane, State.updLane_lane]
      exact (congrArg Lane.ctx (ha.lane l)).trans he
    · exact .refl s
  all_goals exact .refl s

theorem execTakeDeadline_keepsPlaces : OutcomeKeepsPlaces s (execTakeDeadline l s) := by
  refine .whenRunning fun _ => ?_
  split
  · rename_i o ho
    split
    · exact s.dropOffer_keepsPlaces l ho
    · exact .refl s
  all_goals exact .refl s

theorem execWriteDeadline_keepsPlaces : OutcomeKeepsPlaces s (execWriteDeadline l s) := by
  refine .whenRunning fun _ => ?_
  split
  · split
    · exact s.writeEnded_keepsPlaces l _
    · exact .refl s
  · exact .refl s

theorem execPassageDeadline_keepsPlaces (which : WhichEntry) :
    OutcomeKeepsPlaces s (execPassageDeadline l which s) := by
  refine .whenRunning fun _ => ?_
  split
  · rename_i e rest he
    obtain ⟨h1, h2, h3⟩ := pickEntry_some he
    split
    · exact s.voidEntry_keepsPlaces l _ h1 h2 h3
    · exact .refl s
  · exact .refl s

theorem execCalendarSecond_keepsPlaces : OutcomeKeepsPlaces s (execCalendarSecond s) := by
  refine .next ?_
  split
  · split
    · dsimp only
      split
      · exact (s.withClock_aside _).keepsPlaces
      · exact ((s.withClock_aside _).trans (State.handDay_aside _ _)).keepsPlaces
    · exact .refl s
  · exact .refl s

/-! ## The events of the list flash port -/

theorem execPortGrant_keepsPlaces : OutcomeKeepsPlaces s (execPortGrant s) := by
  refine .whenRunning fun _ => ?_
  split
  · exact .refl s
  · exact (s.arbitrate_aside.trans (State.carryOut_aside _)).keepsPlaces

theorem execSuspendIssue_keepsPlaces : OutcomeKeepsPlaces s (execSuspendIssue s) := by
  refine .whenRunning fun _ => ?_
  split
  · split
    · exact (s.withPort_aside _).keepsPlaces
    · exact .refl s
  · exact .refl s

theorem execSuspendEnd_keepsPlaces (status : SuspendStatus) : OutcomeKeepsPlaces s (execSuspendEnd status s) := by
  refine .whenRunning fun _ => ?_
  split
  · exact ((s.suspendEnded_aside status).trans (State.arbitrate_aside _)).keepsPlaces
  · exact .refl s

theorem execPageReadEnd_keepsPlaces (reads : FlashReads) : OutcomeKeepsPlaces s (execPageReadEnd reads s) := by
  have h := (s.endRead_aside reads).keepsPlaces
  refine .next ?_
  split
  · rename_i hr _
    exact (h.trans (State.readEnded_keepsPlaces _ _ _ hr)).trans (State.arbitrate_aside _).keepsPlaces
  · rename_i hr _
    exact h.trans (State.coldRead_keepsPlaces (s := s.endRead reads) hr _ _)
  · exact .refl s

theorem execPageProgramEnd_keepsPlaces (good : Bool) : OutcomeKeepsPlaces s (execPageProgramEnd good s) := by
  refine .whenRunning fun _ => ?_
  split
  · refine (Aside.trans ?_ (State.arbitrate_aside _)).keepsPlaces
    split
    · exact s.failJob_aside _
    · exact s.programEnded_aside good
  · exact .refl s

theorem execSectorEraseEnd_keepsPlaces (good : Bool) : OutcomeKeepsPlaces s (execSectorEraseEnd good s) := by
  refine .whenRunning fun _ => ?_
  split
  · refine (Aside.trans ?_ (State.arbitrate_aside _)).keepsPlaces
    split
    · exact s.failJob_aside _
    · exact s.eraseEnded_aside good
  · exact .refl s

theorem execFlashResetEnd_keepsPlaces : OutcomeKeepsPlaces s (execFlashResetEnd s) := by
  refine .next ?_
  split
  · exact ((s.withPort_aside _).trans (State.arbitrate_aside _)).keepsPlaces
  · exact (s.withPort_aside _).keepsPlaces
  · rename_i hr
    split
    · exact s.finishUnread_keepsPlaces none
    · exact State.coldStage_keepsPlaces hr _ _
  · exact .refl s

theorem execOperationTimeLimit_keepsPlaces : OutcomeKeepsPlaces s (execOperationTimeLimit s) := by
  refine .whenRunning fun _ => ?_
  split
  · split
    · exact (s.failJob_aside _).keepsPlaces
    · exact .refl s
  · exact s.actLimit_aside.keepsPlaces
  · exact s.actLimit_aside.keepsPlaces
  all_goals exact .refl s

theorem execFlashReadyTimeout_keepsPlaces : OutcomeKeepsPlaces s (execFlashReadyTimeout s) := by
  refine .next ?_
  split
  · split
    · exact s.finishUnread_keepsPlaces _
    · exact .refl s
  · exact .refl s

/-! ## The pins, the supplies and RESTART -/

/-- The keep unit changed beside its run condition. -/
theorem State.withKeep_aside {k : Keep} (h : k.run = s.keep.run) : Aside s (s.withKeep k) := ⟨rfl, rfl, h⟩

theorem execResetInputAssert_keepsPlaces : OutcomeKeepsPlaces s (execResetInputAssert s) := by
  refine .next ?_
  split
  · exact .refl s
  · exact s.enterHold_keepsPlaces.trans (State.withKeep_aside s.enterHold rfl).keepsPlaces

theorem execResetInputRelease_keepsPlaces : OutcomeKeepsPlaces s (execResetInputRelease s) := by
  have h := (s.withKeep_aside (k := { s.keep with resetInput := false }) rfl).keepsPlaces
  refine .next ?_
  split
  · exact h.trans (State.release_keepsPlaces _)
  · exact .refl s

theorem execCoreSupplyRise_keepsPlaces (low : Bool) : OutcomeKeepsPlaces s (execCoreSupplyRise low s) := by
  have h : KeepsPlaces s (s.withKeep { s.keep with
      coreUp := true, run := if low then .held .powerOn else s.keep.run }) := by
    cases low with
    | true => exact s.withKeep_keepsPlaces (by simp)
    | false => exact (s.withKeep_aside rfl).keepsPlaces
  refine .next ?_
  split
  · exact .refl s
  · exact h.trans (State.release_keepsPlaces _)

theorem execCoreSupplyFall_keepsPlaces : OutcomeKeepsPlaces s (execCoreSupplyFall s) := by
  refine .next ?_
  split
  · exact s.enterHold_keepsPlaces.trans (State.withKeep_aside s.enterHold rfl).keepsPlaces
  · exact .refl s

theorem execRestart_keepsPlaces (fields : Fields Unit) : OutcomeKeepsPlaces s (execRestart fields s) := by
  refine (State.onTransfer_keepsPlaces fun _ => ?_).next
  cases fields with
  | misfit => exact (State.withStation_aside _ _).keepsPlaces
  | fit => exact State.beginRestart_keepsPlaces _ _

/-! ## The commands of the station port -/

theorem execReadStats_keepsPlaces (fields : Fields Bool) : OutcomeKeepsPlaces s (execReadStats fields s) := by
  refine .onStation fun clear t => ?_
  dsimp only
  split
  · have cleared : KeepsPlaces t (t.withLanes (t.lanes.map fun lane => { lane with stats := LaneStats.zero })) :=
      t.mapLanes_still _ fun _ => ⟨rfl, rfl, rfl⟩
    exact cleared.trans (State.count_aside _ _).keepsPlaces
  · exact .refl t

theorem execSetLane_keepsPlaces (fields : Fields LaneArgs) : OutcomeKeepsPlaces s (execSetLane fields s) := by
  refine .onStation fun a t => onLaneCode_keepsPlaces _ t fun l => ?_
  split
  · split
    · exact t.setRole_keepsPlaces l _ _
    · exact .refl t
  · exact .refl t

theorem execSetLanding_keepsPlaces (fields : Fields LandingArgs) : OutcomeKeepsPlaces s (execSetLanding fields s) := by
  refine .onStation fun a t => ?_
  split
  · exact (t.withStation_aside _).keepsPlaces
  · exact .refl t

theorem execWriteFare_keepsPlaces (fields : Fields WriteFareArgs) : OutcomeKeepsPlaces s (execWriteFare fields s) := by
  refine .onStation fun a t => ?_
  split
  · split
    · exact Aside.keepsPlaces ⟨rfl, rfl, rfl⟩
    · exact .refl t
  · exact .refl t

theorem execStagePlan_keepsPlaces (fields : Fields PlanArgs) : OutcomeKeepsPlaces s (execStagePlan fields s) := by
  refine .onStation fun a t => onBerthCode_keepsPlaces _ t fun b => ?_
  split
  · exact t.setPlan_keepsPlaces b _
  · exact .refl t

theorem execListAdd_keepsPlaces (fields : Fields (List AddEntry)) : OutcomeKeepsPlaces s (execListAdd fields s) := by
  refine .onStation fun a t => ?_
  split
  · split
    · exact (t.addToList_aside _).keepsPlaces
    · exact .refl t
  · exact .refl t

theorem State.takeDrop_aside (a : DropArgs) : Aside s (s.takeDrop a).1 := by
  unfold State.takeDrop
  split
  · split
    · exact .refl s
    · exact s.withLog_aside _
  · exact .refl s

theorem execStoreSettings_keepsPlaces (fields : Fields Unit) : OutcomeKeepsPlaces s (execStoreSettings fields s) := by
  refine .onStation fun _ t => ?_
  split
  · exact .refl t
  · exact ((t.withPort_aside _).trans (State.createJob_aside _ _)).keepsPlaces

end

/-! ## The step -/

/-- Every command keeps the laws of the places. -/
theorem exec_keepsPlaces (i : Instr) (s : State) : OutcomeKeepsPlaces s (exec i s) := by
  cases i with
  | tap l fields => exact execTap_keepsPlaces s l fields
  | take l => exact execTake_keepsPlaces s l
  | wroteOk l => exact execWroteOk_keepsPlaces s l
  | wroteFailed l => exact execWroteFailed_keepsPlaces s l
  | laneStatus l => exact .onLane fun _ => s.replyLane_still l _
  | laneBadFrame l => exact .onLane fun _ => (s.countLane_still l _).trans (State.replyLane_still _ l _)
  | laneUnknownMessage l => exact .onLane fun _ => s.replyLane_still l _
  | arrive b fields => exact .onDock fun _ t => t.takeArrive_keepsPlaces b _
  | rampOpen b fields => exact .onDock fun _ t => t.takeRampOpen_keepsPlaces b
  | countQuery b fields => exact .onDock fun _ t => .refl t
  | departReq b fields => exact .onDock fun _ t => t.takeDepartReq_keepsPlaces b
  | handoverTaken b fields => exact .onDock fun _ t => t.takeHandover_keepsPlaces b
  | dockBadFrame b => exact .whenRunning fun _ => s.replyDock_keepsPlaces b none
  | dockUnknownMessage b => exact .onDock fun _ t => .refl t
  | silenceDeadline b => exact execSilenceDeadline_keepsPlaces s b
  | closingDeadline b => exact execClosingDeadline_keepsPlaces s b
  | berthCommit b l => exact .whenRunning fun _ => s.takeFromLane_keepsPlaces b l _
  | berthRelease b l => exact .whenRunning fun _ => s.takeFromLane_keepsPlaces b l _
  | rawLevelChange l level => exact execRawLevelChange_keepsPlaces s l level
  | debounceDeadline l => exact execDebounceDeadline_keepsPlaces s l
  | blockedDeadline l => exact execBlockedDeadline_keepsPlaces s l
  | verdictDeadline l => exact execVerdictDeadline_keepsPlaces s l
  | takeDeadline l => exact execTakeDeadline_keepsPlaces s l
  | writeDeadline l => exact execWriteDeadline_keepsPlaces s l
  | passageDeadline l which => exact execPassageDeadline_keepsPlaces s l which
  | calendarSecond => exact execCalendarSecond_keepsPlaces s
  | readStatus fields => exact .onStation fun _ t => (t.latch_aside _).keepsPlaces
  | readStats fields => exact execReadStats_keepsPlaces s fields
  | setClock fields => exact .onStation fun a t => (t.takeSetClock_aside a).keepsPlaces
  | setLane fields => exact execSetLane_keepsPlaces s fields
  | setLanding fields => exact execSetLanding_keepsPlaces s fields
  | writeFare fields => exact execWriteFare_keepsPlaces s fields
  | readFare fields => exact .onStation fun _ t => .refl t
  | stagePlan fields => exact execStagePlan_keepsPlaces s fields
  | cancelPlan fields =>
    exact .onStation fun _ t => onBerthCode_keepsPlaces _ t fun b => t.setPlan_keepsPlaces b none
  | setCap fields => exact .onStation fun _ t => onBerthCode_keepsPlaces _ t fun b => t.takeSetCap_keepsPlaces b _
  | closeBerth fields => exact .onStation fun _ t => onBerthCode_keepsPlaces _ t fun b => t.takeClose_keepsPlaces b
  | reopenBerth fields => exact .onStation fun _ t => onBerthCode_keepsPlaces _ t fun b => t.takeReopen_keepsPlaces b
  | forceVacate fields => exact .onStation fun _ t => onBerthCode_keepsPlaces _ t fun b => t.takeVacate_keepsPlaces b
  | laneClear fields => exact .onStation fun _ t => onLaneCode_keepsPlaces _ t fun l => t.takeClear_keepsPlaces l
  | listBegin fields => exact .onStation fun _ t => t.takeListBegin_aside.keepsPlaces
  | listAdd fields => exact execListAdd_keepsPlaces s fields
  | listCommit fields => exact .onStation fun _ t => t.takeListCommit_aside.keepsPlaces
  | logPeek fields => exact .onStation fun _ t => .refl t
  | logDrop fields => exact .onStation fun a t => (t.takeDrop_aside a).keepsPlaces
  | storeSettings fields => exact execStoreSettings_keepsPlaces s fields
  | restart fields => exact execRestart_keepsPlaces s fields
  | rttQuery fields => exact .onStation fun _ t => .refl t
  | emptyFrame => exact (State.onTransfer_keepsPlaces fun _ => .refl _).next
  | stationBadFrame => exact (State.onTransfer_keepsPlaces fun _ => (State.withStation_aside _ _).keepsPlaces).next
  | stationUnknownCommand kind =>
    exact (State.onTransfer_keepsPlaces fun _ => (State.withStation_aside _ _).keepsPlaces).next
  | portGrant => exact execPortGrant_keepsPlaces s
  | suspendIssue => exact execSuspendIssue_keepsPlaces s
  | suspendEnd status => exact execSuspendEnd_keepsPlaces s status
  | pageReadEnd reads => exact execPageReadEnd_keepsPlaces s reads
  | pageProgramEnd good => exact execPageProgramEnd_keepsPlaces s good
  | sectorEraseEnd good => exact execSectorEraseEnd_keepsPlaces s good
  | flashResetEnd => exact execFlashResetEnd_keepsPlaces s
  | operationTimeLimit => exact execOperationTimeLimit_keepsPlaces s
  | resetInputAssert => exact execResetInputAssert_keepsPlaces s
  | resetInputRelease => exact execResetInputRelease_keepsPlaces s
  | coreSupplyRise low => exact execCoreSupplyRise_keepsPlaces s low
  | coreSupplyFall => exact execCoreSupplyFall_keepsPlaces s
  | retentionSupplyDip => exact (State.withKeep_aside s (k := { s.keep with latch := true }) rfl).keepsPlaces.next
  | flashReadyTimeout => exact execFlashReadyTimeout_keepsPlaces s

/-- One millisecond keeps them (log 2). -/
theorem State.tick_keepsPlaces (s : State) : KeepsPlaces s s.tick := by
  have h : KeepsPlaces s s.passTime := (s.withClock_aside _).keepsPlaces
  unfold State.tick
  split
  · exact h.trans (State.takeAsked_aside _).keepsPlaces
  · exact h
  · exact h.trans (State.warmStep_keepsPlaces _ _)
  · rename_i waited hr
    exact .of_eq rfl rfl fun _ _ => ⟨.flashReset waited, hr⟩
  · exact .refl s

/-- Every step keeps them. -/
theorem step_keepsPlaces {s t : State} (h : step s = .next t) : KeepsPlaces s t := by
  unfold step at h
  split at h
  · cases h
    exact s.tick_keepsPlaces
  · rename_i c rest _
    exact KeepsPlaces.trans (t := s.withPending rest) (Aside.keepsPlaces ⟨rfl, rfl, rfl⟩) (exec_keepsPlaces c _ t h)

/-- Settles O9: every step keeps the places. -/
theorem everyStepKeepsThePlaces : Obligations.EveryStepKeepsThePlaces := by
  unfold Obligations.EveryStepKeepsThePlaces
  exact fun s t hs h => (step_keepsPlaces h hs).1

/-! ## The bound -/

/-- The messages in flight are those of the eight lanes. -/
theorem Call.length_inFlight (c : Call) :
    c.inFlight.length = c.inFlightOf .l0 + c.inFlightOf .l1 + c.inFlightOf .l2 + c.inFlightOf .l3 + c.inFlightOf .l4
      + c.inFlightOf .l5 + c.inFlightOf .l6 + c.inFlightOf .l7 := by
  simp only [Call.inFlightOf]
  induction c.inFlight with
  | nil => rfl
  | cons m rest ih =>
    obtain ⟨l, m⟩ := m
    cases l <;> simp <;> omega

/-- At most two places a lane, eight lanes: at most 16 reserved (R2). -/
theorem reserved_le_sixteen {s : State} (hp : PlaceLaw s) (hb : PlaceBoundLaw s) {b : BerthId} {c : Call}
    (hc : s.call b = some c) : c.reserved ≤ 16 := by
  have h := ((placeLaw_iff s).mp hp).calls b c hc
  have bound := fun l => hb.2 b c l hc
  have h0 := bound .l0; have h1 := bound .l1; have h2 := bound .l2; have h3 := bound .l3
  have h4 := bound .l4; have h5 := bound .l5; have h6 := bound .l6; have h7 := bound .l7
  have hheld : s.placesHeld b = (s.lane .l0).placesOn b + (s.lane .l1).placesOn b + (s.lane .l2).placesOn b
      + (s.lane .l3).placesOn b + (s.lane .l4).placesOn b + (s.lane .l5).placesOn b + (s.lane .l6).placesOn b
      + (s.lane .l7).placesOn b := rfl
  rw [h.1, hheld, c.length_inFlight]
  omega

/-- Settles O10: every step keeps the bound, which sums to 16. -/
theorem everyStepKeepsReservedAtMostSixteen : Obligations.EveryStepKeepsReservedAtMostSixteen := by
  unfold Obligations.EveryStepKeepsReservedAtMostSixteen
  intro s t hp hb h
  obtain ⟨hp', hb'⟩ := step_keepsPlaces h hp
  exact ⟨hb' hb, fun b c hc => reserved_le_sixteen hp' (hb' hb) hc⟩

end Sys2Proof.Machine
end

section
/-!
PROOF. The release of a berth's holdings and the end of a call after it (R7, R8, R18, R23, R36, R64), and LANE_CLEAR
(R65).
-/
namespace Sys2Proof.Machine

/-! ## Every message in flight taken -/

/-- How many of the messages in flight are commits. -/
def Call.commitsInFlight (c : Call) : Nat := c.inFlight.countP fun m => decide (m.2 = Holding.commit)

/-- A call whose messages in flight were all taken, `reserved` places left: its commits are on board (R7, R28). -/
def Call.emptied (c : Call) (reserved : Nat) : Call :=
  { c with
    inFlight := [], reserved := reserved
    onBoard := bumpBy c.commitsInFlight c.onBoard, boarded := bumpBy c.commitsInFlight c.boarded
    isOver := if c.commitsInFlight = 0 then c.isOver
      else decide (c.effectiveCap < bumpBy c.commitsInFlight c.onBoard) }

/-- Messages taken one after another: every one gives back its place, every commit is a boarding (R26, R28). -/
theorem Call.foldl_takeHolding (ms : List (LaneId × Holding)) (c : Call) {n : Nat}
    (hn : ms.countP (fun m => decide (m.2 = Holding.commit)) = n) :
    ms.foldl (fun d m => d.takeHolding m.2) c
      = { c with
          reserved := c.reserved - ms.length
          onBoard := bumpBy n c.onBoard, boarded := bumpBy n c.boarded
          isOver := if n = 0 then c.isOver else decide (c.effectiveCap < bumpBy n c.onBoard) } := by
  induction ms generalizing c n with
  | nil => subst hn; rfl
  | cons m rest ih =>
    obtain ⟨l, m⟩ := m
    cases m with
    | release =>
      have hn' : rest.countP (fun m => decide (m.2 = Holding.commit)) = n := by simpa using hn
      rw [List.foldl_cons, ih _ hn']
      simp only [Call.takeHolding, Call.takeRelease, Nat.sub_sub, Nat.add_comm 1, List.length_cons]
      rfl
    | commit =>
      obtain rfl : rest.countP (fun m => decide (m.2 = Holding.commit)) + 1 = n := by simpa using hn
      rw [List.foldl_cons, ih _ rfl]
      simp only [Call.takeHolding, Call.takeCommit, Call.judgeOver, Nat.sub_sub, Nat.add_comm 1, List.length_cons,
        Nat.add_one_ne_zero, if_false, bumpBy]
      split
      · rename_i h0
        rw [h0]
        rfl
      · rfl

/-- Releases that join the messages in flight change no more than the reserved count of what is left. -/
theorem Call.takeWhere_joined (c : Call) {ms : List (LaneId × Holding)} (h : ∀ m ∈ ms, m.2 = Holding.release) :
    ∃ k, Call.takeWhere (fun _ => true) { c with inFlight := c.inFlight ++ ms } = c.emptied k := by
  have h0 : ms.countP (fun m => decide (m.2 = Holding.commit)) = 0 :=
    List.countP_eq_zero.mpr fun m hm => by simp [h m hm]
  have hn : (c.inFlight ++ ms).countP (fun m => decide (m.2 = Holding.commit)) = c.commitsInFlight := by
    rw [List.countP_append, h0]; rfl
  refine ⟨c.reserved - (c.inFlight ++ ms).length, ?_⟩
  simp only [Call.takeWhere, List.filter_true, Call.foldl_takeHolding _ _ hn, Bool.not_true, List.filter_false]
  rfl

/-! ## A berth's release of holdings -/

/-- A sum over the lanes, as one over their list. -/
theorem PerLane.sum_eq_list {α : Type} (f : α → Nat) (p : PerLane α) :
    p.sum f = (LaneId.list.map fun l => f (p.get l)).sum := by
  simp only [LaneId.list, List.map_cons, List.map_nil, List.sum_cons, List.sum_nil, PerLane.sum, PerLane.get]
  omega

/-- The VOID records of a berth's lanes are as many as their entries. -/
theorem State.voidRecords_length (s : State) (b : BerthId) (r : VoidReason) :
    (s.voidRecords (s.lanesAt b) r).length
      = s.lanes.sum fun x => if x.role.boards = some b then x.entries.length else 0 := by
  have h (ls : List LaneId) : (s.voidRecords (s.boarding b ls) r).length
      = (ls.map fun l => if (s.lane l).role.boards = some b then (s.lane l).entries.length else 0).sum := by
    induction ls with
    | nil => rfl
    | cons l rest ih =>
      simp only [State.voidRecords, State.boarding, List.filter_cons, List.map_cons, List.sum_cons] at ih ⊢
      split <;> rename_i hb <;> simp only [decide_eq_true_eq] at hb <;> simp [hb, ih]
  rw [State.lanesAt_eq, h, PerLane.sum_eq_list]
  rfl

/-- After a release of a berth's holdings: its lanes are ended, and its call took every message in flight (R7, R64). -/
theorem State.releaseHoldings_eq {s : State} {b : BerthId} {c : Call} (hc : s.call b = some c) (r : VoidReason) :
    ∃ t k, GaveBack (s.voidRecords (s.lanesAt b) r) (s.offerSlots (s.lanesAt b))
        ((s.lanesAt b).flatMap fun l => (s.lane l).heldTokens) s t
      ∧ (∀ l, t.lane l = if (s.lane l).role.boards = some b then (s.lane l).dropped.voided else s.lane l)
      ∧ (PlaceLaw s → ∀ k, k ≠ b → t.berth k = s.berth k)
      ∧ s.releaseHoldings b r = t.setCall b (some (c.emptied k)) := by
  have hg := State.endBerthHoldings_gaveBack b r LaneId.list_nodup s
  obtain ⟨ms, hms, hb⟩ := hg.berth b
  obtain ⟨k, hk⟩ := c.takeWhere_joined hms
  have hu : (s.endBerthHoldings b r LaneId.list).call b = some { c with inFlight := c.inFlight ++ ms } := by
    show ((s.endBerthHoldings b r LaneId.list).berth b).call = _
    have hc' : (s.berth b).call = some c := hc
    rw [hb, Berth.joined, hc']
    rfl
  refine ⟨s.endBerthHoldings b r LaneId.list, k, hg, fun l => ?_, fun hp j hj => ?_, ?_⟩
  · rw [State.endBerthHoldings_lane b r LaneId.list_nodup]
    simp only [LaneId.mem_list l, true_and]
  · exact s.endBerthHoldings_berth_other r hj LaneId.list_nodup fun l _ => ((placeLaw_iff s).mp hp).entries l
  · rw [← hk]
    exact State.updCall_some hu _

/-- What a lane whose holdings are ended counted. -/
theorem Lane.dropped_voided_stats (x : Lane) : x.dropped.voided.stats = { x.stats with
    voided := bumpBy x.entries.length x.stats.voided
    offersDropped := bumpBy x.ctx.offers x.stats.offersDropped } := rfl

/-! ## The closing deadline -/

/-- The end of the closing grace is a change that latches BERTH_EVENT: of the state, or in SUSPENDED of the prior state
(R18, R20, R37). -/
theorem berthEvent_graceExpired {c : Call} (h : c.stage = .closing) :
    berthEvent (some c) (some c.graceExpired) = true := by
  cases hs : c.suspended <;> simp [berthEvent, callState, priorState, Call.graceExpired, hs, h]

/-- Settles O40, from the release of holdings; the place law makes the reserved count 0. -/
theorem closingDeadlineReleasesEveryHolding : Obligations.ClosingDeadlineReleasesEveryHolding := by
  unfold Obligations.ClosingDeadlineReleasesEveryHolding
  rintro s b c deadline hr hp hc hg hd hn n rfl
  obtain ⟨t, k, back, lane, other, released⟩ := State.releaseHoldings_eq hc .closed
  have hcall : (s.releaseHoldings b .closed).call b = some (c.emptied k) := by rw [released, State.setCall_call]
  obtain rfl : k = 0 := (State.releaseHoldings_call hp b .closed hcall).1
  have hx : exec (.closingDeadline b) s
      = .next ((s.releaseHoldings b .closed).setCall b (some (c.emptied 0).graceExpired)) := by
    refine congrArg Host.Outcome.next ((State.whenRunning_of hr _).trans ?_)
    have hdue : s.reached c.closingDeadline = true := by simp [State.reached, hd, hn]
    simp only [hc, hg, hdue, and_self, if_true]
    exact State.updCall_some hcall _
  have hlatched : ((s.releaseHoldings b .closed).setCall b (some (c.emptied 0).graceExpired)).station.causes.berthEvent
      = true := by
    have he : berthEvent ((s.releaseHoldings b .closed).call b) (some (c.emptied 0).graceExpired) = true := by
      rw [hcall]
      exact berthEvent_graceExpired hg
    rw [State.setCall_latched he]
    rfl
  have hlane (l : LaneId) : ((s.releaseHoldings b .closed).setCall b (some (c.emptied 0).graceExpired)).lane l
      = if (s.lane l).role.boards = some b then (s.lane l).dropped.voided else s.lane l := by
    rw [released, State.setCall_lane, State.setCall_lane, lane]
  have hlog : ((s.releaseHoldings b .closed).setCall b (some (c.emptied 0).graceExpired)).log
      = s.log.afterAppends (s.voidRecords (s.lanesAt b) .closed) (s.offerSlots (s.lanesAt b)) := by
    rw [released, State.setCall_eq, State.setCall_eq]
    exact back.log
  refine ⟨_, _, hx, State.setCall_call _ _ _, rfl, rfl, rfl, rfl, rfl, hlatched, rfl, fun l hl => ?_, ?_,
    fun l hl => ?_, hlog, ?_, fun j hj => ?_, ?_⟩
  · rw [hlane, if_pos hl]
    exact ⟨rfl, Lane.dropped_voided_holdings _, rfl⟩
  · rw [released, State.setCall_eq, State.setCall_eq]
    exact back.taps
  · rw [hlane, if_neg hl]
  · rw [hlog, TripLog.afterAppends_length, State.voidRecords_length]
  · rw [released, State.setCall_call_other _ _ hj, State.setCall_call_other _ _ hj]
    exact congrArg Berth.call (other hp j hj)
  · rw [released, State.setCall_eq, State.setCall_eq]
    exact back.clock

/-! ## A call ended with its holdings -/

/-- From `s` to `u` the call `c` of a berth ended without a handover, its holdings released first (R8, R23, R36): the
DEPARTURE record follows the VOID records, and BERTH_EVENT is latched. -/
structure CallEnded (b : BerthId) (r : VoidReason) (c : Call) (s u : State) : Prop where
  lane : ∀ l, u.lane l = if (s.lane l).role.boards = some b then (s.lane l).dropped.voided else s.lane l
  log : u.log = s.log.afterAppends (s.voidRecords (s.lanesAt b) r
    ++ [.departure (c.departureContent s.clock.calendar true)]) (s.offerSlots (s.lanesAt b))
  taps : u.taps = ((s.lanesAt b).flatMap fun l => (s.lane l).heldTokens).foldl tapRelease s.taps
  call : u.call b = none
  plan : (u.berth b).plan = (s.berth b).plan
  reply : (u.berth b).reply = (s.berth b).reply
  other : PlaceLaw s → ∀ k, k ≠ b → u.berth k = s.berth k
  station : u.station = { s.station with causes := { s.station.causes with berthEvent := true } }
  clock : u.clock = s.clock
  keep : u.keep = s.keep
  fare : u.fare = s.fare
  deny : u.deny = s.deny
  port : u.port = s.port

/-- A release of holdings and the end of the call. -/
theorem State.releaseHoldings_endCall {s : State} {b : BerthId} {c : Call} (hc : s.call b = some c) (r : VoidReason) :
    CallEnded b r c s ((s.releaseHoldings b r).endCall b true) := by
  obtain ⟨t, k, back, lane, other, released⟩ := State.releaseHoldings_eq hc r
  obtain ⟨ms, -, hb⟩ := back.berth b
  have hcall : (s.releaseHoldings b r).call b = some (c.emptied k) := by rw [released, State.setCall_call]
  have hcal : t.clock.calendar = s.clock.calendar := congrArg _ back.clock
  rw [State.endCall_some hcall, released, State.setCall_eq]
  refine ⟨lane, ?_, back.taps, ?_, ?_, ?_, fun hp j hj => ?_, ?_, back.clock, back.keep, back.fare, back.deny,
    back.port⟩
  · show t.log.appendReserved ((c.emptied k).departure t.clock.calendar true) = _
    rw [TripLog.appendReserved_eq, back.log, TripLog.afterAppends_afterAppends, hcal]
    rfl
  · exact congrArg Berth.call (State.setBerth_berth _ b _)
  · refine (congrArg Berth.plan (State.setBerth_berth _ b _)).trans ?_
    refine (congrArg Berth.plan (t.setBerth_berth b _)).trans ?_
    rw [hb]
    rfl
  · refine (congrArg Berth.reply (State.setBerth_berth _ b _)).trans ?_
    refine (congrArg Berth.reply (t.setBerth_berth b _)).trans ?_
    rw [hb]
    rfl
  · exact ((State.setBerth_other _ _ hj).trans (t.setBerth_other _ hj)).trans (other hp j hj)
  · show { t.station with causes := { t.station.causes with berthEvent := true } } = _
    rw [back.station]

/-! ## Another vessel at a suspended call -/

/-- The log after reserved appends ends in the last of them. -/
theorem TripLog.afterAppends_getLast (g : TripLog) (cs : List Content) (c : Content) (n : Nat) :
    (g.afterAppends (cs ++ [c]) n).records.getLast?
      = some { seq := g.nextSeq + BitVec.ofNat 16 cs.length, content := c } := by
  simp [TripLog.afterAppends, numbered_append, numbered]

/-- The call an accepted ARRIVE opens, with a plan or without (R9, R10). -/
theorem openedCall_new (a : ArriveArgs) (plan : Option Plan) (arrival : Option CalTime) (now : Nat) :
    (openedCall a plan arrival now).vesselId = a.vesselId ∧ (openedCall a plan arrival now).stage = .alighting
      ∧ (openedCall a plan arrival now).suspended = false ∧ (openedCall a plan arrival now).reserved = 0
      ∧ (openedCall a plan arrival now).onBoard = a.onBoard.toNat ∧ (openedCall a plan arrival now).boarded = 0 := by
  unfold openedCall
  split
  · split <;> exact ⟨rfl, rfl, rfl, rfl, rfl, rfl⟩
  · exact ⟨rfl, rfl, rfl, rfl, rfl, rfl⟩

/-- What an accepted ARRIVE leaves: the lanes, the recent-tap table, the records; and the berth's new call and reply. -/
theorem State.openCall_replied {u : State} (b : BerthId) {a : ArriveArgs} (ha : arrivalValid a = true)
    (hl : u.log.reserve < 1024 - u.log.records.length) {t : State}
    (ht : (u.openCall b a).1.replyDock b (some (u.openCall b a).2) = t) :
    t.lanes = u.lanes ∧ t.taps = u.taps ∧ t.log = { u.log with reserve := u.log.reserve + 1 }
      ∧ ∃ d applied, d = openedCall a (u.berth b).plan u.clock.calendar u.now ∧ t.call b = some d
        ∧ (t.berth b).reply = some (.arriveAccepted (callState (some d)) applied d.effectiveCap d.line) := by
  subst ht
  rw [State.openCall_room ha hl rfl rfl rfl, State.setCall_eq]
  refine ⟨?_, ?_, ?_, _, planApplies (u.berth b).plan a.vesselId, rfl, ?_, ?_⟩ <;>
    cases planApplies (u.berth b).plan a.vesselId
  all_goals simp [State.replyDock, State.setPlan, State.call, State.latch]

/-- Settles O37: the old call's end leaves a VACANT berth, where the arrival is taken as any other. -/
theorem arriveReplacesASuspendedVessel : Obligations.ArriveReplacesASuspendedVessel := by
  unfold Obligations.ArriveReplacesASuspendedVessel
  rintro s b a c hr hp hc hs hv ha log rfl
  have ended := State.releaseHoldings_endCall hc .linkLost
  generalize hu : (s.releaseHoldings b .linkLost).endCall b true = u at ended
  have hru : u.keep.run = .running := by rw [ended.keep]; exact hr
  have hold : exec (.arrive b (.fit a)) s = .next ((u.openCall b a).1.replyDock b (some (u.openCall b a).2)) := by
    refine congrArg Host.Outcome.next ((State.onDock_fit hr hc a _).trans ?_)
    have hself : s.setBerth b { s.berth b with call := some (c.heard s.now) } = s := by
      rw [Call.heard_suspended hs, ← hc]
      exact s.setBerth_self b
    rw [hself]
    simp only [State.takeArrive, hc, hs, hv, if_true, if_false, State.replaceVessel, ha, hu]
  have hnew : exec (.arrive b (.fit a)) u = .next ((u.openCall b a).1.replyDock b (some (u.openCall b a).2)) := by
    refine congrArg Host.Outcome.next ((State.onDock_fit_vacant hru ended.call a _).trans ?_)
    simp only [State.takeArrive, ended.call]
  have hlast := s.log.afterAppends_getLast (s.voidRecords (s.lanesAt b) .linkLost)
    (.departure (c.departureContent s.clock.calendar true)) (s.offerSlots (s.lanesAt b))
  rw [← ended.log] at hlast ⊢
  refine ⟨u, _, hold, hnew, ended.keep, ended.clock, ended.call, ended.plan, rfl, ?_, ?_, fun l hl => ?_,
    fun l hl => ?_, ended.other hp, ?arrival⟩
  · rw [ended.station]
  · rw [ended.station]
  · rw [ended.lane, if_pos hl]
    exact Lane.dropped_voided_holdings _
  · rw [ended.lane, if_neg hl]
  case arrival =>
    by_cases hroom : u.log.reserve < 1024 - u.log.records.length
    · obtain ⟨lanes, taps, log, d, applied, hd, call, reply⟩ := State.openCall_replied b ha hroom rfl
      obtain ⟨vessel, stage, suspended, reserved, onBoard, boarded⟩ :=
        openedCall_new a (u.berth b).plan u.clock.calendar u.now
      rw [← hd] at vessel stage suspended reserved onBoard boarded
      have hal : callState (some d) = .alighting := by simp [callState, suspended, stage]
      rw [hal] at reply
      refine ⟨lanes, taps, ⟨_, _, by rw [log]; exact hlast, rfl, rfl, rfl, rfl⟩, fun h => absurd hroom h, fun _ => ?_⟩
      exact ⟨log, d, applied, call, vessel, stage, suspended, reserved, onBoard, boarded, reply⟩
    · rw [State.openCall_full b ha hroom, ended.call]
      refine ⟨rfl, rfl, ⟨_, _, hlast, rfl, rfl, rfl, rfl⟩, fun _ => ⟨rfl, ?_, ?_, ?_⟩, fun h => absurd h hroom⟩
      · exact (congrArg Berth.call (u.setBerth_berth b _)).trans ended.call
      · exact congrArg Berth.reply (u.setBerth_berth b _)
      · exact (congrArg Berth.plan (u.setBerth_berth b _)).trans ended.plan

end Sys2Proof.Machine
end

section
/-!
PROOF. LANE_CLEAR, and with FORCE_VACATE the orders that end holdings (R36, R65).
-/
namespace Sys2Proof.Machine

/-! ## A lookup withdrawn -/

/-- A withdrawn lookup's read grant leaves the log and the recent-tap table. -/
theorem State.grantRead_log (s : State) (w : Bool) : (s.grantRead w).log = s.log ∧ (s.grantRead w).taps = s.taps := by
  unfold State.grantRead State.countStart
  split
  · split <;> exact ⟨rfl, rfl⟩
  · exact ⟨rfl, rfl⟩

theorem State.removeLookup_log (s : State) (l : LaneId) :
    (s.removeLookup l).log = s.log ∧ (s.removeLookup l).taps = s.taps := by
  unfold State.removeLookup
  dsimp only
  split <;> exact ⟨rfl, rfl⟩

theorem State.withdrawLookup_log (s : State) (l : LaneId) :
    (s.withdrawLookup l).log = s.log ∧ (s.withdrawLookup l).taps = s.taps := by
  unfold State.withdrawLookup
  split
  · have h := State.removeLookup_log (s.grantRead ‹_›) l
    have k := s.grantRead_log ‹_›
    exact ⟨h.1.trans k.1, h.2.trans k.2⟩
  · exact s.removeLookup_log l

theorem State.removeLookup_queue (s : State) (l : LaneId) :
    (s.removeLookup l).deny.queue = s.deny.queue.filter fun q => decide (q.lane ≠ l) := by
  unfold State.removeLookup
  dsimp only
  split <;> rfl

/-- A read granted to the head lookup of a lane changes no other lane's lookup (R178). -/
theorem State.grantRead_queue {s : State} {q : Lookup} {rest : List Lookup} (h : s.deny.queue = q :: rest) (w : Bool) :
    (s.grantRead w).deny.queue
      = { q with captured := some (q.captured.getD s.deny.selector), reading := true } :: rest := by
  unfold State.grantRead
  rw [h]
  simp [DenyUnit.startRead, h]

/-- The queue without the lane's lookups (R154). -/
theorem State.withdrawLookup_queue (s : State) (l : LaneId) :
    (s.withdrawLookup l).deny.queue = s.deny.queue.filter fun q => decide (q.lane ≠ l) := by
  unfold State.withdrawLookup
  split
  · rename_i w hg
    unfold State.grantedLookup at hg
    split at hg
    · rename_i q rest _ _ hq
      split at hg
      · rename_i hl
        rw [State.removeLookup_queue, State.grantRead_queue hq, hq]
        simp [hl]
      · cases hg
    · cases hg
  · exact s.removeLookup_queue l

/-! ## LANE_CLEAR -/

/-- From `s` to `t` a lane's context was made FREE (R65 step 1): an offer is dropped, an evaluation withdrawn and its
held TAKE answered NO_VERDICT. -/
structure ContextCleared (l : LaneId) (s t : State) : Prop where
  quiet : Quiet s t
  log : t.log = s.log.afterAppends [] (s.lane l).ctx.offers
  taps : t.taps = (s.lane l).ctx.offerTokens.foldl tapRelease s.taps
  ctx : (t.lane l).ctx = .free
  entries : (t.lane l).entries = (s.lane l).entries
  stats : (t.lane l).stats = { (s.lane l).stats with
    offersDropped := bumpBy (s.lane l).ctx.offers (s.lane l).stats.offersDropped }
  other : ∀ k, k ≠ l → t.lane k = s.lane k
  queue : (∃ e d, (s.lane l).ctx = .waiting e d) →
    t.deny.queue = s.deny.queue.filter fun q => decide (q.lane ≠ l)
  held : (∃ e d, (s.lane l).ctx = .waiting e d) → (s.lane l).takeHeld = true →
    (t.lane l).takeHeld = false ∧ (t.lane l).reply = some (.verdict noVerdictFrame)

/-- A TAKE held at an evaluation that was cancelled is answered NO_VERDICT (R51, R127). -/
theorem State.settle_free {s : State} {l : LaneId} (h : (s.lane l).ctx = .free) :
    (s.settle l).lane l = (if (s.lane l).takeHeld then
      { s.lane l with takeHeld := false, reply := some (.verdict noVerdictFrame) } else s.lane l)
    ∧ (∀ k, k ≠ l → (s.settle l).lane k = s.lane k)
    ∧ (s.settle l).log = s.log ∧ (s.settle l).taps = s.taps ∧ (s.settle l).deny = s.deny := by
  unfold State.settle
  split
  · refine ⟨?_, fun k hk => s.updLane_other _ hk, rfl, rfl, rfl⟩
    rw [State.updLane_lane]
    simp only [Lane.answerTake, h]
  · exact ⟨rfl, fun _ _ => rfl, rfl, rfl, rfl⟩

/-- An evaluation cancelled, and the hold of its TAKE over (R65, R127). -/
theorem State.cancelEvaluation_cleared {s : State} {l : LaneId} {e : Evaluation} {d : Nat}
    (h : (s.lane l).ctx = .waiting e d) : ContextCleared l s ((s.cancelEvaluation l).settle l) := by
  have hlane : (s.cancelEvaluation l).lane l = { s.lane l with ctx := .free } := by
    unfold State.cancelEvaluation State.setContext
    rw [State.updLane_lane, (s.withdrawLookup_aside l).lane]
  have hother (k : LaneId) (hk : k ≠ l) : (s.cancelEvaluation l).lane k = s.lane k := by
    unfold State.cancelEvaluation State.setContext
    rw [State.updLane_other _ _ hk, (s.withdrawLookup_aside l).lane]
  obtain ⟨hlog, htaps⟩ := s.withdrawLookup_log l
  obtain ⟨lane, other, log, taps, deny⟩ := State.settle_free (congrArg Lane.ctx hlane)
  rw [hlane] at lane
  refine ⟨(s.cancelEvaluation_quiet l).trans (State.settle_quiet _ l), ?_, ?_, ?_, ?_, ?_,
    fun k hk => (other k hk).trans (hother k hk), fun _ => ?_, fun _ ht => ?_⟩
  · rw [log, h]
    exact hlog.trans s.log.afterAppends_none.symm
  · rw [taps, h]
    exact htaps
  · rw [lane]; split <;> rfl
  · rw [lane]; split <;> rfl
  · rw [lane, h]; split <;> rfl
  · rw [deny]
    exact s.withdrawLookup_queue l
  · rw [lane, if_pos ht]
    exact ⟨rfl, rfl⟩

/-- An offer dropped (R49, R65). -/
theorem State.dropOffer_cleared {s : State} {l : LaneId} {o : Offer} (h : (s.lane l).ctx = .offer o) :
    ContextCleared l s (s.dropOffer l o) := by
  have back := s.dropOffer_gaveBack l o
  have lane := s.dropOffer_lane h
  have nowait : ¬ ∃ e d, (s.lane l).ctx = .waiting e d := by rintro ⟨e, d, hw⟩; rw [h] at hw; cases hw
  refine ⟨s.dropOffer_quiet l o, ?_, ?_, ?_, by rw [lane]; rfl, by rw [lane]; rfl,
    fun k hk => s.dropOffer_other o hk, fun hw => absurd hw nowait, fun hw => absurd hw nowait⟩
  · rw [back.log, h]; rfl
  · rw [back.taps, h]; rfl
  · rw [lane, Lane.dropped_offer h]

/-- A context without an offer or an evaluation set FREE. -/
theorem State.setContext_cleared {s : State} {l : LaneId} (ho : (s.lane l).ctx.offers = 0)
    (hw : ¬ ∃ e d, (s.lane l).ctx = .waiting e d) : ContextCleared l s (s.setContext l .free) := by
  have lane : (s.setContext l .free).lane l = { s.lane l with ctx := .free } := s.updLane_lane l _
  refine ⟨s.setContext_quiet l _, ?_, ?_, by rw [lane], by rw [lane], by rw [lane, ho]; rfl,
    fun k hk => s.updLane_other _ hk, fun h => absurd h hw, fun h => absurd h hw⟩
  · rw [ho]
    exact s.log.afterAppends_none.symm
  · rw [Context.offerTokens_of_none ho]
    rfl

/-- Step 1 of LANE_CLEAR, by the context. -/
theorem State.clearContext_cleared (s : State) (l : LaneId) : ContextCleared l s (s.clearContext l) := by
  cases h : (s.lane l).ctx <;> simp only [State.clearContext, h]
  case free =>
    have hself : s.setContext l .free = s := by
      show s.setLane l { s.lane l with ctx := .free } = s
      rw [← h]
      exact s.setLane_self l
    have cleared : ContextCleared l s (s.setContext l .free) :=
      State.setContext_cleared (by rw [h]; rfl) (by rw [h]; rintro ⟨e, d, hw⟩; cases hw)
    rwa [hself] at cleared
  case waiting e d => exact State.cancelEvaluation_cleared h
  case offer o => exact State.dropOffer_cleared h
  case refused r => exact State.setContext_cleared (by rw [h]; rfl) (by rw [h]; rintro ⟨e, d, hw⟩; cases hw)

/-- From `s` to `t` a lane was cleared (R65): its context is FREE and its entries are voided. -/
structure LaneCleared (l : LaneId) (s t : State) : Prop where
  quiet : Quiet s t
  log : t.log = s.log.afterAppends (s.voidRecords [l] .cleared) (s.offerSlots [l])
  taps : t.taps = (s.lane l).heldTokens.foldl tapRelease s.taps
  ctx : (t.lane l).ctx = .free
  entries : (t.lane l).entries = []
  stats : (t.lane l).stats = { (s.lane l).stats with
    voided := bumpBy (s.lane l).entries.length (s.lane l).stats.voided
    offersDropped := bumpBy (s.lane l).ctx.offers (s.lane l).stats.offersDropped }
  other : ∀ k, k ≠ l → t.lane k = s.lane k
  queue : (∃ e d, (s.lane l).ctx = .waiting e d) →
    t.deny.queue = s.deny.queue.filter fun q => decide (q.lane ≠ l)
  held : (∃ e d, (s.lane l).ctx = .waiting e d) → (s.lane l).takeHeld = true →
    (t.lane l).takeHeld = false ∧ (t.lane l).reply = some (.verdict noVerdictFrame)

/-- The entries voided after the context is cleared. -/
theorem ContextCleared.voidAll {l : LaneId} {s t : State} (h : ContextCleared l s t) :
    LaneCleared l s (t.voidAll l .cleared) := by
  have back : GaveBack _ 0 _ t (t.voidAll l .cleared) := State.voidList_gaveBack l .cleared (t.lane l).entries t
  have lane : (t.voidAll l .cleared).lane l = (t.lane l).voided := State.voidList_lane l .cleared _ t rfl
  refine ⟨h.quiet.trans (t.voidAll_quiet l .cleared), ?_, ?_, (congrArg Lane.ctx lane).trans h.ctx,
    congrArg Lane.entries lane, ?_, fun k hk => (State.voidList_other .cleared _ t hk).trans (h.other k hk),
    fun hw => (congrArg DenyUnit.queue back.deny).trans (h.queue hw), fun hw ht => ?_⟩
  · rw [back.log, h.log, TripLog.afterAppends_afterAppends, h.entries, h.quiet.clock]
    simp [State.voidRecords, State.offerSlots]
  · rw [back.taps, h.taps, h.entries, ← List.foldl_append, ← Lane.heldTokens_eq]
  · rw [lane, Lane.voided, h.stats, h.entries]
  · rw [lane]
    exact h.held hw ht

/-! ## The orders of the station -/

theorem onLaneCode_some {code : Nat} {l : LaneId} (h : LaneId.ofCode code = some l) (s : State)
    (f : LaneId → State × Answer) : onLaneCode code s f = f l := by simp [onLaneCode, h]

theorem onLaneCode_none {code : Nat} (h : LaneId.ofCode code = none) (s : State)
    (f : LaneId → State × Answer) : onLaneCode code s f = (s, .no .badArgument) := by simp [onLaneCode, h]

/-- FORCE_VACATE at an open call (R36). -/
theorem State.forceVacate_open {s : State} (hr : s.keep.run = .running) {code : Nat} {b : BerthId}
    (hb : BerthId.ofCode code = some b) {c : Call} (hc : s.call b = some c) :
    ∃ u, CallEnded b .forced c s.collect u
      ∧ exec (.forceVacate (.fit code)) s = .next (u.setReply (.ok .forceVacate (.berthState .vacant))) := by
  have hc' : s.collect.call b = some c := hc
  refine ⟨_, State.releaseHoldings_endCall hc' .forced, congrArg Host.Outcome.next ?_⟩
  rw [State.onStation_fit hr, onBerthCode_some hb]
  simp only [State.takeVacate, hc']
  rfl

/-- LANE_CLEAR at a lane (R65): its context is cleared, then its entries are voided. -/
theorem exec_laneClear {s : State} (hr : s.keep.run = .running) {code : Nat} {l : LaneId}
    (hl : LaneId.ofCode code = some l) :
    exec (.laneClear (.fit code)) s
      = .next (((s.collect.clearContext l).voidAll l .cleared).setReply
          (.ok .laneClear (.cleared (s.lane l).entries.length (s.lane l).ctx.isOffer))) := by
  refine congrArg Host.Outcome.next ?_
  rw [State.onStation_fit hr, onLaneCode_some hl]
  rfl

/-- Settles O52, by the command and its argument. -/
theorem forceVacateAndLaneClearEndTheHoldings : Obligations.ForceVacateAndLaneClearEndTheHoldings := by
  unfold Obligations.ForceVacateAndLaneClearEndTheHoldings
  intro s hr
  refine ⟨fun code hb => ?badBerth, fun code b hb => ⟨fun hc => ?vacant, fun c hc => ?vacate⟩, fun code hl => ?badLane,
    fun code l hl => ?clear⟩
  case badBerth =>
    exact congrArg Host.Outcome.next (State.onStation_answered hr (.no .badArgument) (onBerthCode_none hb _ _))
  case vacant =>
    refine congrArg Host.Outcome.next
      (State.onStation_answered hr (.no .wrongState) ((onBerthCode_some hb _ _).trans ?_))
    simp only [State.takeVacate, State.collect_call, hc]
  case badLane =>
    exact congrArg Host.Outcome.next (State.onStation_answered hr (.no .badArgument) (onLaneCode_none hl _ _))
  case vacate =>
    obtain ⟨u, ended, hx⟩ := State.forceVacate_open hr hb hc
    refine ⟨_, hx, ended.call, ended.plan, ended.reply, rfl, ?_, fun l hlane => ?_, fun l hlane => ?_, ended.log, ?_,
      ended.taps, fun hp => ended.other hp, ended.clock, ended.keep, ended.deny, ended.port, ended.fare⟩
    · exact congrArg (·.causes) ended.station
    · have h : u.lane l = (s.lane l).dropped.voided := (ended.lane l).trans (if_pos hlane)
      show (u.lane l).holdings = 0 ∧ (u.lane l).stats = _
      rw [h]
      exact ⟨Lane.dropped_voided_holdings _, rfl⟩
    · exact (ended.lane l).trans (if_neg hlane)
    · show u.log.records.length = _
      rw [ended.log, TripLog.afterAppends_length, List.length_append, State.voidRecords_length]
      show s.log.records.length + (_ + 1) = s.log.records.length + 1 + _
      rw [Nat.add_comm _ 1, Nat.add_assoc]
      rfl
  case clear =>
    have cleared := (s.collect.clearContext_cleared l).voidAll
    refine ⟨_, exec_laneClear hr hl, cleared.ctx, cleared.entries, ?_, cleared.quiet.role l, cleared.quiet.settings l,
      cleared.quiet.cond l, cleared.other, cleared.stats, cleared.log, cleared.taps,
      fun hw => ⟨cleared.queue hw, cleared.held hw⟩, cleared.quiet.clock, cleared.quiet.keep, cleared.quiet.fare,
      (congrArg FlashPort.job cleared.quiet.port :)⟩
    cases h : (s.lane l).ctx <;> rfl

end Sys2Proof.Machine
end

section
/-!
PROOF. The laws that no other law is needed for: the lanes' lists (R54), the settings (R40, R207), the calendar (R84) and
the capacities (R1, R3). `KeepsLaws s t` says that each is kept; here the changes of one lane, one berth and the clock,
and the shared operations over lanes and berths.
-/
namespace Sys2Proof.Machine

/-- From `s` to `t` four laws are kept, each by itself. -/
structure KeepsLaws (s t : State) : Prop where
  lists : LaneListLaw s → LaneListLaw t
  settings : SettingsLaw s → SettingsLaw t
  calendar : CalendarLaw s → CalendarLaw t
  capacity : CapacityLaw s → CapacityLaw t

theorem KeepsLaws.refl (s : State) : KeepsLaws s s := ⟨id, id, id, id⟩

theorem KeepsLaws.trans {s t u : State} (h : KeepsLaws s t) (k : KeepsLaws t u) : KeepsLaws s u :=
  ⟨k.lists ∘ h.lists, k.settings ∘ h.settings, k.calendar ∘ h.calendar, k.capacity ∘ h.capacity⟩

/-! ## Changes beside what the laws read -/

/-- No lane, no berth, no clock and no landing setting changed. -/
structure Beside (s t : State) : Prop where
  lanes : t.lanes = s.lanes
  berths : t.berths = s.berths
  clock : t.clock = s.clock
  landing : t.station.landing = s.station.landing

theorem Beside.refl (s : State) : Beside s s := ⟨rfl, rfl, rfl, rfl⟩

theorem Beside.trans {s t u : State} (h : Beside s t) (k : Beside t u) : Beside s u :=
  ⟨k.lanes.trans h.lanes, k.berths.trans h.berths, k.clock.trans h.clock, k.landing.trans h.landing⟩

/-- A quiet change of neither a lane nor a berth. -/
theorem Quiet.beside {s t : State} (h : Quiet s t) (k : Aside s t) : Beside s t :=
  ⟨k.lanes, k.berths, h.clock, h.landing⟩

theorem Beside.keepsLaws {s t : State} (h : Beside s t) : KeepsLaws s t := by
  obtain ⟨lanes, berths, clock, landing⟩ := h
  refine ⟨fun k => ?_, fun k => ?_, fun k => ?_, fun k => ?_⟩
  · simpa only [LaneListLaw, State.lane, lanes] using k
  · simpa only [SettingsLaw, State.lane, lanes, landing] using k
  · simpa only [CalendarLaw, clock] using k
  · simpa only [CapacityLaw, State.berth, berths] using k

/-! ## One lane changed -/

/-- What holds of every lane, after one lane is replaced. -/
theorem State.setLane_forall {s : State} {l : LaneId} {y : Lane} {p : Lane → Prop} (h : ∀ k, p (s.lane k))
    (hy : p (s.lane l) → p y) (k : LaneId) : p ((s.setLane l y).lane k) := by
  by_cases e : k = l
  · subst e; rw [State.setLane_lane]; exact hy (h k)
  · rw [State.setLane_other _ _ e]; exact h k

theorem State.setLane_keepsLaws {s : State} {l : LaneId} {y : Lane} (hl : (s.lane l).listLaw → y.listLaw)
    (hs : laneSettingsValid (s.lane l).settings = true → laneSettingsValid y.settings = true) :
    KeepsLaws s (s.setLane l y) :=
  ⟨fun h => State.setLane_forall (p := Lane.listLaw) h hl,
    fun h => ⟨State.setLane_forall (p := fun x => laneSettingsValid x.settings = true) h.1 hs, h.2⟩, id, id⟩

/-- A lane changed beside its settings. -/
theorem State.updLane_keepsLaws (s : State) (l : LaneId) {f : Lane → Lane}
    (hl : (s.lane l).listLaw → (f (s.lane l)).listLaw) (hs : (f (s.lane l)).settings = (s.lane l).settings) :
    KeepsLaws s (s.updLane l f) := State.setLane_keepsLaws hl fun h => hs.symm ▸ h

/-- Context and list as they were: every other field of a lane is beside the law of its list. -/
theorem Lane.listLaw_of_still {x y : Lane} (hc : y.ctx = x.ctx) (he : y.entries = x.entries) (h : x.listLaw) :
    y.listLaw := by
  simpa only [Lane.listLaw, hc, he] using h

/-- A list as it was, under a context that leads to no entry. -/
theorem Lane.listLaw_of_ended {x y : Lane} (hc : y.ctx.pendingAdmission = false) (he : y.entries = x.entries)
    (h : x.listLaw) : y.listLaw :=
  ⟨he ▸ h.1, he ▸ h.2.1, fun k => absurd (hc.symm.trans k) Bool.false_ne_true⟩

/-- A list as it was, with room for what its context may lead to (R110). -/
theorem Lane.listLaw_of_mayAdmit {x y : Lane} (h : x.mayAdmit) (he : y.entries = x.entries) (hx : x.listLaw) :
    y.listLaw := ⟨he ▸ hx.1, he ▸ hx.2.1, fun _ => he ▸ h.2 hx⟩

/-- A lane changed beside its settings, its context and its list. -/
theorem State.updLane_beside (s : State) (l : LaneId) {f : Lane → Lane}
    (h : ∀ x : Lane, (f x).settings = x.settings ∧ (f x).ctx = x.ctx ∧ (f x).entries = x.entries) :
    KeepsLaws s (s.updLane l f) :=
  s.updLane_keepsLaws l (Lane.listLaw_of_still (h _).2.1 (h _).2.2) (h _).1

theorem State.countLane_keepsLaws (s : State) (l : LaneId) (f : LaneStats → LaneStats) :
    KeepsLaws s (s.countLane l f) := s.updLane_beside l fun _ => ⟨rfl, rfl, rfl⟩

theorem State.replyLane_keepsLaws (s : State) (l : LaneId) (r : Option LaneReply) : KeepsLaws s (s.replyLane l r) :=
  s.updLane_beside l fun _ => ⟨rfl, rfl, rfl⟩

/-- A context set that leads to no entry. -/
theorem State.setContext_keepsLaws (s : State) (l : LaneId) {c : Context} (h : c.pendingAdmission = false) :
    KeepsLaws s (s.setContext l c) := s.updLane_keepsLaws l (Lane.listLaw_of_ended h rfl) rfl

theorem State.settle_keepsLaws (s : State) (l : LaneId) : KeepsLaws s (s.settle l) := by
  unfold State.settle
  split
  · exact s.updLane_keepsLaws l (Lane.answerTake_samePlaces { s.lane l with takeHeld := false } s.now).list
      (Lane.answerTake_keeps { s.lane l with takeHeld := false } s.now).2.1
  · exact .refl s

/-- Every lane changed beside its settings. -/
theorem State.mapLanes_keepsLaws (s : State) {f : Lane → Lane} (hl : ∀ x : Lane, x.listLaw → (f x).listLaw)
    (hs : ∀ x : Lane, (f x).settings = x.settings) : KeepsLaws s (s.withLanes (s.lanes.map f)) := by
  have hlane : ∀ l, (s.withLanes (s.lanes.map f)).lane l = f (s.lane l) := fun l => PerLane.get_map f s.lanes l
  refine ⟨fun h l => ?_, fun h => ⟨fun l => ?_, h.2⟩, id, id⟩
  · rw [hlane]; exact hl _ (h l)
  · rw [hlane, hs]; exact h.1 l

/-! ## One berth changed -/

theorem State.setBerth_keepsLaws (s : State) (b : BerthId) {x : Berth}
    (h : (s.berth b).capacityLaw → x.capacityLaw) : KeepsLaws s (s.setBerth b x) := by
  refine ⟨id, id, id, fun hs k => ?_⟩
  by_cases e : k = b
  · subst e; rw [State.setBerth_berth]; exact h (hs k)
  · rw [State.setBerth_other _ _ e]; exact hs k

/-- A berth record replaced by one whose capacities lie in their ranges. -/
theorem State.setCall_keepsLaws (s : State) (b : BerthId) {o : Option Call}
    (h : (s.berth b).capacityLaw → ∀ d, o = some d → d.capacityLaw) : KeepsLaws s (s.setCall b o) := by
  rw [State.setCall_eq]
  have record : KeepsLaws s (s.setBerth b { s.berth b with call := o }) :=
    s.setBerth_keepsLaws b fun hb => ⟨h hb, hb.2⟩
  exact record.trans (Beside.keepsLaws ⟨rfl, rfl, rfl, rfl⟩)

/-- Both capacities of a call stand. -/
def Call.SameCaps (c d : Call) : Prop := d.effectiveCap = c.effectiveCap ∧ d.declaredCap = c.declaredCap

theorem Call.SameCaps.law {c d : Call} (h : c.SameCaps d) (hc : c.capacityLaw) : d.capacityLaw := by
  simpa only [Call.capacityLaw, h.1, h.2] using hc

theorem Call.SameCaps.trans {c d e : Call} (h : c.SameCaps d) (k : d.SameCaps e) : c.SameCaps e :=
  ⟨k.1.trans h.1, k.2.trans h.2⟩

/-- An open call changed beside its capacities. -/
theorem State.setCall_sameCaps {s : State} {b : BerthId} {c d : Call} (hc : s.call b = some c) (h : c.SameCaps d) :
    KeepsLaws s (s.setCall b (some d)) :=
  s.setCall_keepsLaws b fun hb _ he => Option.some.inj he ▸ h.law (hb.1 c hc)

theorem State.updCall_keepsLaws (s : State) (b : BerthId) {f : Call → Call} (h : ∀ c : Call, c.SameCaps (f c)) :
    KeepsLaws s (s.updCall b f) := by
  cases hc : s.call b with
  | none => rw [State.updCall_none hc]; exact .refl s
  | some c => rw [State.updCall_some hc]; exact State.setCall_sameCaps hc (h c)

theorem State.sendHolding_keepsLaws (s : State) (b : Option BerthId) (l : LaneId) (m : Holding) :
    KeepsLaws s (s.sendHolding b l m) := by
  cases b with
  | none => exact .refl s
  | some b => exact s.updCall_keepsLaws b fun _ => ⟨rfl, rfl⟩

theorem State.takeAllInFlight_keepsLaws (s : State) (b : BerthId) : KeepsLaws s (s.takeAllInFlight b) :=
  s.updCall_keepsLaws b (Call.takeWhere_caps _)

theorem State.claimPlace_keepsLaws (s : State) (b : BerthId) (l : LaneId) : KeepsLaws s (s.claimPlace b l).1 := by
  rcases s.claimPlace_cases b l with ⟨r, h⟩ | ⟨c, hc, -, h | h⟩ <;> rw [h]
  · exact .refl s
  · exact State.setCall_sameCaps hc (c.takeWhere_caps fun k => decide (k = l))
  · exact State.setCall_sameCaps hc (c.takeWhere_caps _)

/-- The end of a call (R8) leaves no record. -/
theorem State.endCall_keepsLaws (s : State) (b : BerthId) (n : Bool) : KeepsLaws s (s.endCall b n) := by
  unfold State.endCall
  split
  · exact ((s.appendReserved_quiet _).beside (s.appendReserved_aside _)).keepsLaws.trans
      (State.setCall_keepsLaws _ b fun _ => nofun)
  · exact .refl s

/-! ## Drops, voids and commits -/

theorem State.cancelEvaluation_keepsLaws (s : State) (l : LaneId) : KeepsLaws s (s.cancelEvaluation l) :=
  ((s.withdrawLookup_quiet l).beside (s.withdrawLookup_aside l)).keepsLaws.trans (State.setContext_keepsLaws _ l rfl)

theorem State.dropOffer_keepsLaws (s : State) (l : LaneId) (o : Offer) : KeepsLaws s (s.dropOffer l o) := by
  refine KeepsLaws.trans ?_ (State.sendHolding_keepsLaws _ _ l _)
  refine KeepsLaws.trans (t := (s.releaseUse o.tokenId).releaseSlot) ?_ (State.updLane_keepsLaws _ l ?_ rfl)
  · exact Beside.keepsLaws ⟨rfl, rfl, rfl, rfl⟩
  · exact Lane.listLaw_of_ended rfl rfl

/-- An entry taken out of a lane's list, past changes beside the laws, and a message sent for it: a void or a commit (R62,
R78). -/
theorem State.giveUpEntry_keepsLaws {s t : State} {l : LaneId} {y : Lane} {b : Option BerthId} {m : Holding}
    {rest : List Entry} (h : Beside s t) (hc : y.ctx = (s.lane l).ctx) (hs : y.settings = (s.lane l).settings)
    (hy : y.entries = rest) (hl : rest.length + 1 = (s.lane l).entries.length)
    (he : ∀ x ∈ rest, x ∈ (s.lane l).entries) : KeepsLaws s ((t.setLane l y).sendHolding b l m) := by
  have lane : t.lane l = s.lane l := by simp only [State.lane, h.lanes]
  subst hy
  rw [← lane] at hc hs hl he
  exact (h.keepsLaws.trans (State.setLane_keepsLaws (fun k => Lane.listLaw_without k hc hl he)
    fun k => hs.symm ▸ k)).trans (State.sendHolding_keepsLaws _ b l m)

theorem State.voidEntry_keepsLaws (s : State) (l : LaneId) (e : Entry) {rest : List Entry} (r : VoidReason)
    (hl : rest.length + 1 = (s.lane l).entries.length) (hs : ∀ x ∈ rest, x ∈ (s.lane l).entries) :
    KeepsLaws s (s.voidEntry l e rest r) :=
  State.giveUpEntry_keepsLaws (t := (s.appendReserved (e.voidContent l s.clock.calendar r)).releaseUse e.tokenId)
    ⟨rfl, rfl, rfl, rfl⟩ rfl rfl rfl hl hs

theorem State.commitEntry_keepsLaws (s : State) (l : LaneId) (e : Entry) {rest : List Entry}
    (hl : rest.length + 1 = (s.lane l).entries.length) (hs : ∀ x ∈ rest, x ∈ (s.lane l).entries) :
    KeepsLaws s (s.commitEntry l e rest) :=
  State.giveUpEntry_keepsLaws (t := (s.appendReserved (e.commitRecord l s.clock.calendar)).withTaps
      (tapCommit s.taps e.tokenId (e.tableAdmission l s.clock.calendar (s.lane l).settings.homeLine) s.now))
    ⟨rfl, rfl, rfl, rfl⟩ rfl rfl rfl hl hs

theorem State.voidList_keepsLaws (l : LaneId) (r : VoidReason) (es : List Entry) (s : State)
    (h : (s.lane l).entries = es) : KeepsLaws s (s.voidList l r es) := by
  induction es generalizing s with
  | nil => exact .refl s
  | cons e rest ih =>
    refine (s.voidEntry_keepsLaws l e r ?_ ?_).trans (ih _ (s.voidEntry_entries l e rest r)) <;> rw [h]
    · rfl
    · exact fun x hx => List.mem_cons_of_mem _ hx

theorem State.endHoldings_keepsLaws (s : State) (l : LaneId) (r : VoidReason) : KeepsLaws s (s.endHoldings l r) := by
  refine KeepsLaws.trans (t := s.dropIfOffer l) ?_ (State.voidList_keepsLaws l r _ _ rfl)
  unfold State.dropIfOffer
  split
  · exact s.dropOffer_keepsLaws l _
  all_goals exact .refl s

theorem State.endBerthHoldings_keepsLaws (b : BerthId) (r : VoidReason) (ls : List LaneId) (s : State) :
    KeepsLaws s (s.endBerthHoldings b r ls) := by
  induction ls generalizing s with
  | nil => exact .refl s
  | cons l rest ih =>
    unfold State.endBerthHoldings
    split
    · exact (s.endHoldings_keepsLaws l r).trans (ih _)
    · exact ih s

theorem State.endEveryHolding_keepsLaws (ls : List LaneId) (s : State) : KeepsLaws s (s.endEveryHolding ls) := by
  induction ls generalizing s with
  | nil => exact .refl s
  | cons l rest ih => exact (s.endHoldings_keepsLaws l .restart).trans (ih _)

theorem State.releaseHoldings_keepsLaws (s : State) (b : BerthId) (r : VoidReason) :
    KeepsLaws s (s.releaseHoldings b r) :=
  (State.endBerthHoldings_keepsLaws b r _ s).trans (State.takeAllInFlight_keepsLaws _ b)

/-! ## Decisions -/

theorem State.decideRefuse_keepsLaws (s : State) (l : LaneId) (p : Progress) (r : Reason) (d : Option Nat) :
    KeepsLaws s (s.decideRefuse l p r d) := by
  have refused : KeepsLaws s (s.updLane l fun x =>
      { x with ctx := .refused (p.refused r d), stats := { x.stats with refused := bump x.stats.refused } }) :=
    s.updLane_keepsLaws l (Lane.listLaw_of_ended rfl rfl) rfl
  unfold State.decideRefuse
  dsimp only
  refine (refused.trans ?_).trans (State.settle_keepsLaws _ l)
  split
  · exact ((State.askRefusal_quiet _ _ _).beside (State.askRefusal_aside _ _ _)).keepsLaws
  · exact .refl _

/-- An ADMIT at a list with room (R110, R124). -/
theorem State.decideOffer_keepsLaws (s : State) (l : LaneId) (o : Offer) (h : (s.lane l).mayAdmit) :
    KeepsLaws s (s.decideOffer l o) :=
  (s.updLane_keepsLaws l (Lane.listLaw_of_mayAdmit h rfl) rfl).trans (State.settle_keepsLaws _ l)

theorem State.decidePlace_keepsLaws (s : State) (l : LaneId) (e : Evaluation) (o : Offer)
    (h : (s.lane l).mayAdmit) : KeepsLaws s (s.decidePlace l e o) := by
  unfold State.decidePlace
  split
  · exact s.decideOffer_keepsLaws l o h
  · rename_i b _
    have claimed := s.claimPlace_keepsLaws b l
    have lanes := (s.claimPlace_keeps b l).1
    split <;> rename_i s1 hc <;> rw [hc] at claimed lanes
    · refine claimed.trans (State.decideOffer_keepsLaws _ l o ?_)
      rwa [State.lane, show s1.lanes = s.lanes from lanes]
    · refine (claimed.trans (Beside.keepsLaws ?_)).trans (State.decideRefuse_keepsLaws _ l _ _ _)
      exact ⟨rfl, rfl, rfl, rfl⟩

/-- Checks 9 to 11 (R120 to R124). -/
theorem State.decideClaims_keepsLaws (s : State) (l : LaneId) (e : Evaluation) (flags : DenyFlags)
    (h : (s.lane l).mayAdmit) : KeepsLaws s (s.decideClaims l e flags) := by
  unfold State.decideClaims
  split
  · exact s.decideRefuse_keepsLaws l _ _ _
  · split
    · exact s.decideRefuse_keepsLaws l _ _ _
    · split
      · refine KeepsLaws.trans ?_ (State.decideRefuse_keepsLaws _ l _ _ _)
        exact Beside.keepsLaws ⟨rfl, rfl, rfl, rfl⟩
      · refine KeepsLaws.trans ?_ (State.decidePlace_keepsLaws _ l _ _ h)
        exact Beside.keepsLaws ⟨rfl, rfl, rfl, rfl⟩

theorem State.applyPolicy_keepsLaws (s : State) (l : LaneId) (e : Evaluation) (h : (s.lane l).mayAdmit) :
    KeepsLaws s (s.applyPolicy l e) := by
  unfold State.applyPolicy
  split
  · exact s.decideClaims_keepsLaws l e _ h
  · exact s.decideRefuse_keepsLaws l _ _ _

theorem State.decideLookup_keepsLaws (s : State) (l : LaneId) (e : Evaluation) (o : LookupOutcome)
    (h : (s.lane l).mayAdmit) : KeepsLaws s (s.decideLookup l e o) := by
  unfold State.decideLookup
  split
  · exact s.decideClaims_keepsLaws l e _ h
  · exact s.decideClaims_keepsLaws l e _ h
  · exact s.decideRefuse_keepsLaws l _ _ _
  · exact s.applyPolicy_keepsLaws l e h

end Sys2Proof.Machine
end

section
/-!
PROOF. Every event of the lanes, the berths, the clock and the station port keeps the laws of the lists, the settings,
the calendar and the capacities (R3, R40, R54, R84, R207).
-/
namespace Sys2Proof.Machine

/-! ## How an event reaches its block -/

theorem State.whenRunning_keepsLaws {s : State} {f : State → State} (h : KeepsLaws s (f s)) :
    KeepsLaws s (s.whenRunning f) := by
  unfold State.whenRunning
  split
  · exact h
  · exact .refl s

theorem State.onLane_keepsLaws {s : State} {l : LaneId} {f : State → State} (h : KeepsLaws s (f s)) :
    KeepsLaws s (s.onLane l f) := by
  refine State.whenRunning_keepsLaws ?_
  split
  · exact .refl s
  · exact h

theorem State.onTransfer_keepsLaws {s : State} {f : State → State} (h : KeepsLaws s.collect (f s.collect)) :
    KeepsLaws s (s.onTransfer f) := by
  have collected : KeepsLaws s s.collect := Beside.keepsLaws ⟨rfl, rfl, rfl, rfl⟩
  unfold State.onTransfer
  split
  · exact collected.trans h
  all_goals exact Beside.keepsLaws ⟨rfl, rfl, rfl, rfl⟩

theorem State.setReply_keepsLaws (s : State) (r : StationReply) : KeepsLaws s (s.setReply r) :=
  Beside.keepsLaws ⟨rfl, rfl, rfl, rfl⟩

theorem State.onStation_keepsLaws {α : Type} {s : State} {cmd : Command} {fields : Fields α}
    {f : α → State → State × Answer} (h : ∀ (a : α) (t : State), KeepsLaws t (f a t).1) :
    KeepsLaws s (s.onStation cmd fields f) := by
  refine State.onTransfer_keepsLaws ?_
  cases fields with
  | misfit => exact State.setReply_keepsLaws _ _
  | fit a => exact (h a _).trans (State.setReply_keepsLaws _ _)

theorem onLaneCode_keepsLaws (code : Nat) (s : State) {f : LaneId → State × Answer}
    (h : ∀ l, KeepsLaws s (f l).1) : KeepsLaws s (onLaneCode code s f).1 := by
  unfold onLaneCode
  split
  · exact h _
  · exact .refl s

theorem onBerthCode_keepsLaws (code : Nat) (s : State) {f : BerthId → State × Answer}
    (h : ∀ b, KeepsLaws s (f b).1) : KeepsLaws s (onBerthCode code s f).1 := by
  unfold onBerthCode
  split
  · exact h _
  · exact .refl s

/-- A staged plan with its fields in their ranges, or none (R32). -/
theorem State.setPlan_keepsLaws (s : State) (b : BerthId) {p : Option Plan} (h : ∀ q, p = some q → planLaw q) :
    KeepsLaws s (s.setPlan b p) := s.setBerth_keepsLaws b fun hb => ⟨hb.1, h⟩

theorem State.replyDock_keepsLaws (s : State) (b : BerthId) (r : Option DockReply) : KeepsLaws s (s.replyDock b r) :=
  s.setBerth_keepsLaws b id

theorem Call.heard_sameCaps (c : Call) (now : Nat) : c.SameCaps (c.heard now) := by
  unfold Call.heard
  split <;> exact ⟨rfl, rfl⟩

theorem State.onDock_keepsLaws {α : Type} {s : State} {b : BerthId} {fields : Fields α}
    {f : α → State → State × DockReply} (h : ∀ (a : α) (t : State), KeepsLaws t (f a t).1) :
    KeepsLaws s (s.onDock b fields f) := by
  have heard := s.updCall_keepsLaws b fun c => c.heard_sameCaps s.now
  refine State.whenRunning_keepsLaws ?_
  cases fields with
  | misfit => exact heard.trans (State.replyDock_keepsLaws _ b _)
  | fit a => exact (heard.trans (h a _)).trans (State.replyDock_keepsLaws _ b _)

/-! ## TAP, TAKE, WROTE -/

theorem State.clearForTap_keepsLaws (s : State) (l : LaneId) : KeepsLaws s (s.clearForTap l) := by
  unfold State.clearForTap
  split
  · exact .refl s
  · exact (s.cancelEvaluation_keepsLaws l).trans (State.countLane_keepsLaws _ l _)
  · exact s.dropOffer_keepsLaws l _
  · exact s.setContext_keepsLaws l rfl

theorem State.queueLookup_keepsLaws (s : State) (l : LaneId) (e : Evaluation) (h : (s.lane l).mayAdmit) :
    KeepsLaws s (s.queueLookup l e) := by
  refine KeepsLaws.trans ?_ (State.updLane_keepsLaws _ l (Lane.listLaw_of_mayAdmit h rfl) rfl)
  exact Beside.keepsLaws ⟨rfl, rfl, rfl, rfl⟩

/-- An evaluation started at a lane with no offer: past check 3 its list has room (R110). -/
theorem State.startEvaluation_keepsLaws (s : State) (l : LaneId) (t : TokenRecord)
    (h : (s.lane l).ctx.offers = 0) : KeepsLaws s (s.startEvaluation l t) := by
  unfold State.startEvaluation
  split
  · exact s.decideRefuse_keepsLaws l _ _ _
  · rename_i e he
    have room := Lane.mayAdmit_notBusy h (State.judgeTap_notBusy he)
    unfold State.denyCheck
    split
    · exact s.applyPolicy_keepsLaws l e room
    · exact s.decideClaims_keepsLaws l e _ room
    · exact s.queueLookup_keepsLaws l e room

theorem State.takeTap_keepsLaws (s : State) (l : LaneId) (t : TokenRecord) : KeepsLaws s (s.takeTap l t) := by
  have started : KeepsLaws s (s.updLane l fun x =>
      { x with stats := { x.stats with taps := bump x.stats.taps }, reply := some .tapStarted }) :=
    s.updLane_beside l fun _ => ⟨rfl, rfl, rfl⟩
  exact (started.trans (State.clearForTap_keepsLaws _ l)).trans
    (State.startEvaluation_keepsLaws _ l t (State.clearForTap_spec _ l).2.2)

theorem State.answerTake_keepsLaws (s : State) (l : LaneId) :
    KeepsLaws s (s.updLane l fun x => x.answerTake s.now) :=
  s.updLane_keepsLaws l (Lane.answerTake_samePlaces _ s.now).list (Lane.answerTake_keeps _ s.now).2.1

theorem State.writeEnded_keepsLaws (s : State) (l : LaneId) (c : Confirmation) :
    KeepsLaws s (s.updLane l fun x => x.writeEnded c s.now) :=
  s.updLane_keepsLaws l (Lane.writeEnded_samePlaces _ c s.now).list rfl

/-! ## Passages -/

theorem State.passAtBerth_keepsLaws (s : State) (b : BerthId) {f : Call → Call} (h : ∀ c : Call, c.SameCaps (f c)) :
    KeepsLaws s (s.passAtBerth b f) := by
  unfold State.passAtBerth
  split
  · rename_i c hc; exact State.setCall_sameCaps hc (h c)
  · exact Beside.keepsLaws ⟨rfl, rfl, rfl, rfl⟩

theorem Call.alight_sameCaps (c : Call) : c.SameCaps c.alight := by
  unfold Call.alight
  split <;> exact ⟨rfl, rfl⟩

theorem State.appendUnreserved_keepsLaws (s : State) (c : Content) : KeepsLaws s (s.appendUnreserved c) :=
  ((s.appendUnreserved_quiet c).beside (s.appendUnreserved_aside c)).keepsLaws

theorem State.tailgate_keepsLaws (s : State) (l : LaneId) : KeepsLaws s (s.tailgate l) := by
  have counted := (s.appendUnreserved_keepsLaws (.tailgate s.clock.calendar l (s.lane l).role.boards)).trans
    (State.countLane_keepsLaws _ l fun x => { x with tailgates := bump x.tailgates })
  unfold State.tailgate
  dsimp only
  split
  · exact counted.trans (State.passAtBerth_keepsLaws _ _ fun _ => ⟨rfl, rfl⟩)
  · exact counted

theorem State.matchPassage_keepsLaws (s : State) (l : LaneId) : KeepsLaws s (s.matchPassage l) := by
  unfold State.matchPassage
  split
  · rename_i e he
    obtain ⟨-, hl, hs⟩ := entries_found he
    exact s.commitEntry_keepsLaws l e hl hs
  · exact s.tailgate_keepsLaws l

theorem State.takePassage_keepsLaws (s : State) (l : LaneId) : KeepsLaws s (s.takePassage l) := by
  unfold State.takePassage
  split
  · exact .refl s
  · exact s.passAtBerth_keepsLaws _ Call.alight_sameCaps
  · exact s.passAtBerth_keepsLaws _ Call.alight_sameCaps
  all_goals exact s.matchPassage_keepsLaws l

/-! ## The berths -/

/-- An accepted ARRIVE opens a call with its capacities in their ranges (R9, R10). -/
theorem State.openCall_keepsLaws (s : State) (b : BerthId) (a : ArriveArgs) : KeepsLaws s (s.openCall b a).1 := by
  unfold State.openCall
  split
  · rename_i ha
    split
    · exact .refl s
    · rename_i g _
      have opened : KeepsLaws s ((s.withLog g).setCall b
          (some (openedCall a (s.berth b).plan s.clock.calendar s.now))) :=
        KeepsLaws.trans (t := s.withLog g) (Beside.keepsLaws ⟨rfl, rfl, rfl, rfl⟩)
          (State.setCall_keepsLaws _ b fun hb c hc => by
            cases hc
            exact openedCall_capacityLaw a _ _ _ ha hb.2)
      dsimp only
      split
      · exact opened.trans (State.setPlan_keepsLaws _ b nofun)
      · exact opened
  · exact .refl s

theorem State.takeArrive_keepsLaws (s : State) (b : BerthId) (a : ArriveArgs) : KeepsLaws s (s.takeArrive b a).1 := by
  unfold State.takeArrive
  split
  · exact s.openCall_keepsLaws b a
  · rename_i c hc
    split
    · split
      · exact State.setCall_sameCaps hc ⟨rfl, rfl⟩
      · unfold State.replaceVessel
        split
        · exact ((s.releaseHoldings_keepsLaws b .linkLost).trans (State.endCall_keepsLaws _ b true)).trans
            (State.openCall_keepsLaws _ b a)
        · exact .refl s
    · split <;> exact .refl s

theorem State.takeRampOpen_keepsLaws (s : State) (b : BerthId) : KeepsLaws s (s.takeRampOpen b).1 := by
  unfold State.takeRampOpen
  split
  · exact .refl s
  · rename_i c hc
    split
    · exact .refl s
    · split
      · exact State.setCall_sameCaps hc ⟨rfl, rfl⟩
      all_goals exact .refl s

theorem Call.close_sameCaps (c : Call) (now grace : Nat) : c.SameCaps (c.close now grace) := by
  unfold Call.close
  split <;> exact ⟨rfl, rfl⟩

theorem State.takeDepartReq_keepsLaws (s : State) (b : BerthId) : KeepsLaws s (s.takeDepartReq b).1 := by
  unfold State.takeDepartReq
  split
  · exact .refl s
  · rename_i c hc
    split
    · exact .refl s
    · split
      case h_1 | h_2 => exact State.setCall_sameCaps hc (c.close_sameCaps _ _)
      all_goals exact .refl s

theorem State.takeHandover_keepsLaws (s : State) (b : BerthId) : KeepsLaws s (s.takeHandover b).1 := by
  unfold State.takeHandover
  split
  · exact .refl s
  · split
    · exact .refl s
    · split
      · exact s.endCall_keepsLaws b false
      all_goals exact .refl s

/-- Taking a message judges R17 beside the capacities. -/
theorem Call.takeOne_sameCaps (c : Call) (rest : List (LaneId × Holding)) (m : Holding) :
    c.SameCaps ({ c with inFlight := rest }.takeHolding m).closeIfEmpty := by
  have taken : c.SameCaps ({ c with inFlight := rest }.takeHolding m) :=
    Call.takeHolding_caps { c with inFlight := rest } m
  unfold Call.closeIfEmpty
  split <;> exact taken

theorem State.takeFromLane_keepsLaws (s : State) (b : BerthId) (l : LaneId) (m : Holding) :
    KeepsLaws s (s.takeFromLane b l m) := by
  unfold State.takeFromLane
  split
  · exact .refl s
  · rename_i c hc
    split
    · exact .refl s
    · exact State.setCall_sameCaps hc (c.takeOne_sameCaps _ m)

/-- SET_CAP takes a cap of 1 to 900, and never one above the declared capacity (R33). -/
theorem State.takeSetCap_keepsLaws (s : State) (b : BerthId) (cap : Nat) : KeepsLaws s (s.takeSetCap b cap).1 := by
  unfold State.takeSetCap
  split
  · rename_i hcap
    split
    · exact .refl s
    · rename_i c hc
      refine s.setCall_keepsLaws b fun hb d hd => ?_
      cases hd
      obtain ⟨h1, h2, h3⟩ := hb.1 c hc
      exact ⟨Nat.le_min.mpr ⟨((within_iff 1 900 cap).mp hcap).1, Nat.le_trans h1 h2⟩, Nat.min_le_right _ _, h3⟩
  · exact .refl s

theorem State.takeClose_keepsLaws (s : State) (b : BerthId) : KeepsLaws s (s.takeClose b).1 := by
  unfold State.takeClose
  split
  · exact .refl s
  · rename_i c hc
    have closed : c.SameCaps (if c.suspended then c.closeSuspended s.now s.station.landing.closingGrace
        else c.close s.now s.station.landing.closingGrace) := by
      split
      · exact ⟨rfl, rfl⟩
      · exact c.close_sameCaps _ _
    split
    case h_3 | h_4 => exact State.setCall_sameCaps hc closed
    all_goals exact .refl s

theorem State.takeReopen_keepsLaws (s : State) (b : BerthId) : KeepsLaws s (s.takeReopen b).1 := by
  unfold State.takeReopen
  split
  · exact .refl s
  · rename_i c hc
    split
    · exact State.setCall_sameCaps hc ⟨rfl, rfl⟩
    all_goals exact .refl s

theorem State.takeVacate_keepsLaws (s : State) (b : BerthId) : KeepsLaws s (s.takeVacate b).1 := by
  unfold State.takeVacate
  split
  · exact .refl s
  · exact (s.releaseHoldings_keepsLaws b .forced).trans (State.endCall_keepsLaws _ b true)

/-! ## The settings by the station's orders -/

theorem State.setRole_keepsLaws (s : State) (l : LaneId) (role : Role) {settings : LaneSettings}
    (h : laneSettingsValid settings = true) : KeepsLaws s (s.setRole l role settings).1 := by
  unfold State.setRole
  split
  · exact State.setLane_keepsLaws (Lane.listLaw_of_still rfl rfl) fun _ => h
  · exact .refl s

/-- Landing settings replaced by others in their ranges (R207). -/
theorem State.setLanding_keepsLaws (s : State) {x : LandingSettings} (h : x.valid = true) :
    KeepsLaws s (s.withStation { s.station with landing := x }) := ⟨id, fun hs => ⟨hs.1, h⟩, id, id⟩

theorem State.clearContext_keepsLaws (s : State) (l : LaneId) : KeepsLaws s (s.clearContext l) := by
  unfold State.clearContext
  split
  · exact .refl s
  · exact (s.cancelEvaluation_keepsLaws l).trans (State.settle_keepsLaws _ l)
  · exact s.dropOffer_keepsLaws l _
  · exact s.setContext_keepsLaws l rfl

theorem State.takeClear_keepsLaws (s : State) (l : LaneId) : KeepsLaws s (s.takeClear l).1 :=
  (s.clearContext_keepsLaws l).trans (State.voidList_keepsLaws l _ _ _ rfl)

/-! ## The clock -/

/-- The law of the calendar on a clock, its clauses named. -/
structure Clock.Ranged (c : Clock) : Prop where
  phase : c.phase ≤ 999
  given : ∀ t, c.calendar = some t → t.valid ∧ (t = lastCalTime → c.phase = 0 ∧ c.secondsDue = 0)
  unset : c.calendar = none → c.phase = 0 ∧ c.secondsDue = 0

theorem calendarLaw_iff (s : State) : CalendarLaw s ↔ s.clock.Ranged := by
  unfold CalendarLaw
  cases hc : s.clock.calendar with
  | none =>
    refine ⟨fun h => ⟨h.1, fun t ht => ?_, fun _ => h.2⟩, fun h => ⟨h.phase, h.unset hc⟩⟩
    cases hc.symm.trans ht
  | some t =>
    refine ⟨fun h => ⟨h.1, fun u hu => ?_, fun hn => ?_⟩, fun h => ⟨h.phase, h.given t hc⟩⟩
    · cases hc.symm.trans hu
      exact h.2
    · cases hc.symm.trans hn

/-- A clock changed that stays in its ranges. -/
theorem State.withClock_keepsLaws (s : State) {c : Clock} (h : s.clock.Ranged → c.Ranged) :
    KeepsLaws s (s.withClock c) :=
  ⟨id, id, fun hs => (calendarLaw_iff _).mpr (h ((calendarLaw_iff s).mp hs)), id⟩

/-- One millisecond (R85): the phase returns to 0 past 999, and stays 0 at the last calendar time and while NOT_SET. -/
theorem Clock.tick_ranged {c : Clock} (h : c.Ranged) : c.tick.Ranged := by
  refine ⟨?_, fun t ht => ⟨(h.given t ht).1, fun hl => ?_⟩, fun hn => ?_⟩
  · show nextPhase c.calendar c.phase ≤ 999
    unfold nextPhase
    repeat' split
    all_goals omega
  · have hc : c.calendar = some t := ht
    simp only [Clock.tick, nextPhase, nextSecondsDue, hc, hl, if_true]
    exact ⟨trivial, ((h.given t hc).2 hl).2⟩
  · have hc : c.calendar = none := hn
    simp only [Clock.tick, nextPhase, nextSecondsDue, hc, and_self]

/-- A due second taken (R85): at the last calendar time the phase and the seconds due are 0. -/
theorem Clock.takeSecond_ranged {c : Clock} {t : CalTime} (h : c.Ranged) (ht : c.calendar = some t) :
    (c.takeSecond t).Ranged := by
  have valid := CalTime.next_valid (h.given t ht).1
  unfold Clock.takeSecond
  split
  · exact ⟨Nat.zero_le _, fun u hu => ⟨Option.some.inj hu ▸ valid, fun _ => ⟨rfl, rfl⟩⟩, nofun⟩
  · rename_i hl
    exact ⟨h.phase, fun u hu => ⟨Option.some.inj hu ▸ valid, fun e => absurd ((Option.some.inj hu).trans e) hl⟩, nofun⟩

theorem State.passTime_keepsLaws (s : State) : KeepsLaws s s.passTime := s.withClock_keepsLaws Clock.tick_ranged

theorem State.handDay_beside (s : State) (day : Nat) : Beside s (s.handDay day) := by
  unfold State.handDay
  split <;> exact ⟨rfl, rfl, rfl, rfl⟩

/-- SET_CLOCK takes a day and a second in their ranges (R86). -/
theorem State.takeSetClock_keepsLaws (s : State) (a : ClockArgs) : KeepsLaws s (s.takeSetClock a).1 := by
  unfold State.takeSetClock
  split
  · rename_i ha
    simp only [Bool.and_eq_true, within_iff] at ha
    have timed : KeepsLaws s (s.withClock
        { timeBase := s.clock.timeBase, calendar := some { day := a.day, second := a.second }, phase := 0
          secondsDue := 0 }) :=
      s.withClock_keepsLaws fun _ =>
        ⟨Nat.zero_le _, fun t ht => ⟨Option.some.inj ht ▸ ⟨ha.1.2, ha.2.2⟩, fun _ => ⟨rfl, rfl⟩⟩, nofun⟩
    dsimp only
    refine KeepsLaws.trans ?_ (State.appendUnreserved_keepsLaws _ _)
    split
    · exact timed
    · exact timed.trans (State.handDay_beside _ _).keepsLaws
  · exact .refl s

end Sys2Proof.Machine
end

section
/-!
PROOF. Every step keeps the lanes' lists and the ranges (R3, R40, R54, R84, R207): the list flash port, the restarts, each
command, and the step.
-/
namespace Sys2Proof.Machine

/-! ## The list flash port -/

theorem State.withPort_beside (s : State) (p : FlashPort) : Beside s (s.withPort p) := ⟨rfl, rfl, rfl, rfl⟩
theorem State.withDeny_beside (s : State) (d : DenyUnit) : Beside s (s.withDeny d) := ⟨rfl, rfl, rfl, rfl⟩
theorem State.arbitrate_beside (s : State) : Beside s s.arbitrate := s.withPort_beside _
theorem State.latchListDone_beside (s : State) : Beside s s.latchListDone := ⟨rfl, rfl, rfl, rfl⟩

theorem State.appendUnreserved_beside (s : State) (c : Content) : Beside s (s.appendUnreserved c) :=
  (s.appendUnreserved_quiet c).beside (s.appendUnreserved_aside c)

theorem State.takeAsked_beside (s : State) : Beside s s.takeAsked := s.takeAsked_quiet.beside s.takeAsked_aside

theorem State.createJob_beside (s : State) (j : Job) : Beside s (s.createJob j) := ⟨rfl, rfl, rfl, rfl⟩

theorem State.carryOut_beside (s : State) : Beside s s.carryOut := by
  unfold State.carryOut
  split
  · exact (s.grantRead_quiet _).beside (s.grantRead_aside _)
  · exact s.withPort_beside _
  · exact s.withPort_beside _
  · exact .refl s

theorem State.failJob_beside (s : State) (op : Option FlashOp) : Beside s (s.failJob op) := by
  unfold State.failJob
  dsimp only
  split <;> exact ⟨rfl, rfl, rfl, rfl⟩

theorem State.eraseEnded_beside (s : State) (good : Bool) : Beside s (s.eraseEnded good) := by
  cases good with
  | false => exact s.failJob_beside none
  | true =>
    show Beside s s.eraseGood
    unfold State.eraseGood
    dsimp only
    split
    · split <;> exact ⟨rfl, rfl, rfl, rfl⟩
    all_goals exact ⟨rfl, rfl, rfl, rfl⟩

theorem State.commitSwitch_beside (s : State) : Beside s s.commitSwitch :=
  ((s.withDeny_beside _).trans (State.appendUnreserved_beside _ _)).trans (State.latchListDone_beside _)

theorem State.programEnded_beside (s : State) (good : Bool) : Beside s (s.programEnded good) := by
  cases good with
  | false => exact s.failJob_beside none
  | true =>
    show Beside s s.programGood
    unfold State.programGood
    dsimp only
    split
    case h_3 => exact ((s.withPort_beside _).trans (State.withPort_beside _ _)).trans (State.commitSwitch_beside _)
    case h_4 => split <;> exact ⟨rfl, rfl, rfl, rfl⟩
    all_goals exact ⟨rfl, rfl, rfl, rfl⟩

theorem State.actLimit_beside (s : State) : Beside s s.actLimit := by
  unfold State.actLimit
  split
  · exact s.failJob_beside _
  · exact .refl s

theorem State.suspendEnded_beside (s : State) (status : SuspendStatus) : Beside s (s.suspendEnded status) := by
  cases status with
  | suspended => exact Beside.trans (t := s.suspendHeld) ⟨rfl, rfl, rfl, rfl⟩ (State.actLimit_beside _)
  | ended good =>
    show Beside s (if s.port.eraseLimitReached s.now then s.actLimit else s.eraseEnded good)
    split
    · exact s.actLimit_beside
    · exact s.eraseEnded_beside good

theorem State.rebuildRead_beside (s : State) (res : PageResult) : Beside s (s.rebuildRead res) := by
  unfold State.rebuildRead
  split
  · split <;> exact ⟨rfl, rfl, rfl, rfl⟩
  · exact .refl s

/-- A lookup's outcome decides the evaluation that waits for it, at a list with room (R110, R116). -/
theorem State.handOutcome_keepsLaws (s : State) (l : LaneId) (o : LookupOutcome) :
    KeepsLaws s (s.handOutcome l o) := by
  unfold State.handOutcome
  split
  · rename_i e d he
    exact s.decideLookup_keepsLaws l e o (Lane.mayAdmit_waiting he)
  all_goals exact .refl s

theorem State.lookupRead_keepsLaws (s : State) (res : PageResult) : KeepsLaws s (s.lookupRead res) := by
  unfold State.lookupRead
  split
  · split
    · exact (s.withDeny_beside _).keepsLaws.trans (State.handOutcome_keepsLaws _ _ _)
    · exact (s.withDeny_beside _).keepsLaws
  · exact .refl s

theorem State.readEnded_keepsLaws (s : State) (res : PageResult) (who : Requester) :
    KeepsLaws s (s.readEnded res who) := by
  cases who with
  | lookup => exact (s.lookupRead_keepsLaws res).trans (State.actLimit_beside _).keepsLaws
  | withdrawn => exact s.actLimit_beside.keepsLaws
  | rebuild => exact (s.rebuildRead_beside res).keepsLaws
  | startUp => exact .refl s

theorem State.endRead_beside (s : State) (reads : FlashReads) : Beside s (s.endRead reads) := ⟨rfl, rfl, rfl, rfl⟩

/-! ## The deny list commands -/

theorem State.addToList_beside (s : State) (es : List DenyEntry) : Beside s (s.addToList es).1 := by
  have written : Beside s (match (addEntries s.port.job.isSome s.deny none 0 es).flush with
      | some j => (s.withDeny (addEntries s.port.job.isSome s.deny none 0 es).unit).createJob j
      | none => s.withDeny (addEntries s.port.job.isSome s.deny none 0 es).unit) := by
    split <;> exact ⟨rfl, rfl, rfl, rfl⟩
  unfold State.addToList
  dsimp only
  split
  · exact written
  · exact written
  · exact .refl s

theorem State.takeListBegin_beside (s : State) : Beside s s.takeListBegin.1 := by
  unfold State.takeListBegin
  split
  case h_4 | h_5 => split <;> exact ⟨rfl, rfl, rfl, rfl⟩
  all_goals exact .refl s

theorem State.takeListCommit_beside (s : State) : Beside s s.takeListCommit.1 := by
  unfold State.takeListCommit
  repeat' split
  all_goals exact ⟨rfl, rfl, rfl, rfl⟩

/-! ## The restarts -/

theorem State.withKeep_beside (s : State) (k : Keep) : Beside s (s.withKeep k) := ⟨rfl, rfl, rfl, rfl⟩

theorem State.abandonLinks_keepsLaws (s : State) : KeepsLaws s s.abandonLinks := by
  have h : ∀ x : Lane, x.abandonTake.settings = x.settings ∧ x.abandonTake.ctx = x.ctx
      ∧ x.abandonTake.entries = x.entries := fun x => by unfold Lane.abandonTake; split <;> exact ⟨rfl, rfl, rfl⟩
  exact KeepsLaws.trans (t := s.dropReply) (Beside.keepsLaws ⟨rfl, rfl, rfl, rfl⟩)
    (State.mapLanes_keepsLaws _ (fun x => Lane.listLaw_of_still (h x).2.1 (h x).2.2) fun x => (h x).1)

theorem State.stopWork_keepsLaws (s : State) : KeepsLaws s s.stopWork :=
  (s.abandonLinks_keepsLaws.trans (State.mapLanes_keepsLaws _ (f := fun x => { x with ctx := x.ctx.abandonWaiting })
    (fun x => x.abandonWaiting_samePlaces.1.list) fun _ => rfl)).trans
    ((State.withDeny_beside _ _).trans (State.withPort_beside _ _)).keepsLaws

theorem State.beginWarm_keepsLaws (s : State) (cause : ResetCause) : KeepsLaws s (s.beginWarm cause) :=
  ((s.withKeep_beside _).keepsLaws.trans (State.stopWork_keepsLaws _)).trans (State.withKeep_beside _ _).keepsLaws

/-- A cold start begins with the initial values (R1, R40, R69, R84, R207, R220). -/
theorem State.beginCold_keepsLaws (s : State) (cause : ResetCause) : KeepsLaws s (s.beginCold cause) := by
  have lane : ∀ l, (s.beginCold cause).lane l = (s.lane l).cold := fun l => PerLane.get_map Lane.cold s.lanes l
  have berth : ∀ b, (s.beginCold cause).berth b = (s.berth b).cold := fun b => by cases b <;> rfl
  refine ⟨fun _ l => ?_, fun _ => ⟨fun l => ?_, (by decide : LandingSettings.default.valid = true)⟩,
    fun _ => ⟨Nat.zero_le _, rfl, rfl⟩, fun _ b => ?_⟩
  · rw [lane]; exact ⟨Nat.zero_le _, nofun, nofun⟩
  · rw [lane]; exact (by decide : laneSettingsValid LaneSettings.default = true)
  · rw [berth]; exact ⟨nofun, nofun⟩

theorem State.beginRestart_keepsLaws (s : State) (begun : ResetCause) : KeepsLaws s (s.beginRestart begun) := by
  unfold State.beginRestart
  split
  · exact s.beginWarm_keepsLaws _
  · exact s.beginCold_keepsLaws _

theorem State.release_keepsLaws (s : State) : KeepsLaws s s.release := by
  unfold State.release
  split
  · split
    · exact s.beginRestart_keepsLaws _
    · exact .refl s
  all_goals exact .refl s

theorem State.enterHold_keepsLaws (s : State) : KeepsLaws s s.enterHold := by
  unfold State.enterHold
  split
  · exact .refl s
  all_goals exact s.abandonLinks_keepsLaws.trans (State.withKeep_beside _ _).keepsLaws

theorem Call.restarted_sameCaps (c : Call) (now grace : Nat) : c.SameCaps (c.restarted now grace) := ⟨rfl, rfl⟩

theorem State.suspendCalls_keepsLaws (s : State) : KeepsLaws s s.suspendCalls :=
  (s.updCall_keepsLaws .berthA fun c => c.restarted_sameCaps _ _).trans
    (State.updCall_keepsLaws _ .berthB fun c => c.restarted_sameCaps _ _)

theorem State.endRestartHoldings_keepsLaws (s : State) : KeepsLaws s s.endRestartHoldings :=
  ((((State.endEveryHolding_keepsLaws LaneId.list s).trans (State.mapLanes_keepsLaws _
    (f := fun x => { x with ctx := x.ctx.discardRefuse }) (fun x => x.discardRefuse_samePlaces.1.list)
    fun _ => rfl)).trans (State.takeAllInFlight_keepsLaws _ .berthA)).trans
    (State.takeAllInFlight_keepsLaws _ .berthB)).trans
      ((State.withTaps_quiet _ _).beside (State.withTaps_aside _ _)).keepsLaws

theorem State.startConditioners_keepsLaws (s : State) (now : Nat) :
    KeepsLaws s (s.withLanes (s.lanes.map fun x => x.startConditioner now)) :=
  s.mapLanes_keepsLaws (fun _ => Lane.listLaw_of_still rfl rfl) fun _ => rfl

theorem State.restartRest_keepsLaws (s : State) : KeepsLaws s s.restartRest := by
  refine (s.startConditioners_keepsLaws s.now).trans (Beside.keepsLaws ?_)
  unfold State.restartRest
  dsimp only
  split <;> split <;> exact ⟨rfl, rfl, rfl, rfl⟩

theorem State.endRestart_keepsLaws (s : State) : KeepsLaws s s.endRestart := by
  have day : Beside s s.handWaitingDay := by
    unfold State.handWaitingDay
    split <;> exact ⟨rfl, rfl, rfl, rfl⟩
  refine KeepsLaws.trans day.keepsLaws (Beside.keepsLaws ?_)
  exact ⟨rfl, rfl, rfl, rfl⟩

theorem State.warmStep_keepsLaws (s : State) (next : WarmStage) : KeepsLaws s (s.warmStep next) := by
  cases next with
  | suspendCalls => exact s.suspendCalls_keepsLaws.trans (State.withKeep_beside _ _).keepsLaws
  | endHoldings => exact s.endRestartHoldings_keepsLaws.trans (State.withKeep_beside _ _).keepsLaws
  | restartRest => exact s.restartRest_keepsLaws.trans (State.withKeep_beside _ _).keepsLaws
  | record =>
    exact ((s.takeAsked_beside.trans (State.appendUnreserved_beside _ _)).trans (State.withKeep_beside _ _)).keepsLaws
  | finish => exact s.endRestart_keepsLaws

/-! ## The cold start -/

theorem State.finishCold_keepsLaws (s : State) (a b : Option Nat) (op : Option FlashOp) :
    KeepsLaws s (s.finishCold a b op) :=
  (((s.withDeny_beside _).trans (State.withPort_beside _ _)).keepsLaws.trans
    (State.startConditioners_keepsLaws _ s.now)).trans (Beside.keepsLaws ⟨rfl, rfl, rfl, rfl⟩)

theorem State.finishUnread_keepsLaws (s : State) (op : Option FlashOp) : KeepsLaws s (s.finishUnread op) :=
  KeepsLaws.trans (t := s.countUnread) (Beside.keepsLaws ⟨rfl, rfl, rfl, rfl⟩) (State.finishCold_keepsLaws _ _ _ _)

theorem State.coldStage_beside (s : State) (stage : ColdStage) (op : Option FlashOp) :
    Beside s (s.coldStage stage op) := ⟨rfl, rfl, rfl, rfl⟩

/-- A settings image is loaded with every value in its range (R183, R185). -/
theorem State.loadImage_keepsLaws (s : State) {pages : List Page} {v : SettingsCopy}
    (h : imageSettings pages = some v) : KeepsLaws s (s.loadSettings (some v)) := by
  have lane : ∀ l, (s.loadSettings (some v)).lane l = (s.lane l).load (v.lanes.get l) := fun l => by cases l <;> rfl
  obtain ⟨lanes, landing⟩ := imageSettings_valid h
  refine ⟨fun hs l => ?_, fun _ => ⟨fun l => ?_, landing⟩, id, id⟩
  · rw [lane]; exact Lane.listLaw_of_still rfl rfl (hs l)
  · rw [lane]; exact lanes l

theorem State.afterImage_keepsLaws (s : State) {img : Option SettingsCopy}
    (h : ∀ v, img = some v → ∃ pages, imageSettings pages = some v) : KeepsLaws s (s.afterImage img) := by
  refine KeepsLaws.trans (t := s.loadSettings img) ?_ (State.coldStage_beside _ _ _).keepsLaws
  cases img with
  | none => exact .refl s
  | some v =>
    obtain ⟨pages, hp⟩ := h v rfl
    exact s.loadImage_keepsLaws hp

theorem State.afterContent_keepsLaws (s : State) (pages : List Page) : KeepsLaws s (s.afterContent pages) := by
  unfold State.afterContent
  split
  · exact (s.coldStage_beside _ _).keepsLaws
  · exact s.afterImage_keepsLaws fun v hv => ⟨pages, hv⟩

theorem State.coldRead_keepsLaws (s : State) (res : PageResult) (stage : ColdStage) :
    KeepsLaws s (s.coldRead res stage) := by
  cases stage with
  | flashReset => exact .refl s
  | imageHeader =>
    show KeepsLaws s (if imageHeaderValid res then s.afterContent [] else s.afterImage none)
    split
    · exact s.afterContent_keepsLaws _
    · exact s.afterImage_keepsLaws fun _ h => nomatch h
  | imageContent pages =>
    cases res with
    | good p => exact s.afterContent_keepsLaws _
    | erased => exact s.afterImage_keepsLaws fun _ h => nomatch h
    | unreadable => exact s.afterImage_keepsLaws fun _ h => nomatch h
  | bankHeaderA => exact (s.coldStage_beside _ _).keepsLaws
  | bankHeaderB a => exact s.finishCold_keepsLaws _ _ _

/-! ## The commands -/

/-- The outcome of a command is a state that keeps the laws. -/
def OutcomeKeepsLaws (s : State) (o : Host.Outcome State Fault Refusal) : Prop := ∀ t, o = .next t → KeepsLaws s t

theorem KeepsLaws.next {s u : State} (h : KeepsLaws s u) : OutcomeKeepsLaws s (.next u) := fun t ht => by
  cases ht; exact h

theorem KeepsLaws.whenRunning {s : State} {f : State → State} (h : KeepsLaws s (f s)) :
    OutcomeKeepsLaws s (.next (s.whenRunning f)) := (State.whenRunning_keepsLaws h).next

theorem KeepsLaws.onLane {s : State} {l : LaneId} {f : State → State} (h : KeepsLaws s (f s)) :
    OutcomeKeepsLaws s (.next (s.onLane l f)) := (State.onLane_keepsLaws h).next

theorem KeepsLaws.onDock {α : Type} {s : State} {b : BerthId} {fields : Fields α}
    {f : α → State → State × DockReply} (h : ∀ (a : α) (t : State), KeepsLaws t (f a t).1) :
    OutcomeKeepsLaws s (.next (s.onDock b fields f)) := (State.onDock_keepsLaws h).next

theorem KeepsLaws.onStation {α : Type} {s : State} {cmd : Command} {fields : Fields α}
    {f : α → State → State × Answer} (h : ∀ (a : α) (t : State), KeepsLaws t (f a t).1) :
    OutcomeKeepsLaws s (.next (s.onStation cmd fields f)) := (State.onStation_keepsLaws h).next

section
variable (s : State) (l : LaneId) (b : BerthId)

theorem execTap_keepsLaws (fields : List Byte) : OutcomeKeepsLaws s (execTap l fields s) := by
  refine .onLane ?_
  split
  · exact (s.countLane_keepsLaws l _).trans (State.replyLane_keepsLaws _ l _)
  · exact s.takeTap_keepsLaws l _

theorem execTake_keepsLaws : OutcomeKeepsLaws s (execTake l s) := by
  refine .onLane ?_
  split
  · exact s.updLane_beside l fun _ => ⟨rfl, rfl, rfl⟩
  all_goals exact s.answerTake_keepsLaws l

theorem execWroteOk_keepsLaws : OutcomeKeepsLaws s (execWroteOk l s) := by
  refine .onLane ?_
  split
  · exact s.replyLane_keepsLaws l _
  · exact s.updLane_keepsLaws l
      (Lane.listLaw_of_still rfl rfl ∘ (Lane.writeEnded_samePlaces _ .confirmed s.now).list) rfl

theorem execWroteFailed_keepsLaws : OutcomeKeepsLaws s (execWroteFailed l s) := by
  refine .onLane ?_
  split
  · exact s.replyLane_keepsLaws l _
  · rename_i e he
    obtain ⟨-, hl, hs⟩ := entries_found he
    exact (s.voidEntry_keepsLaws l e _ hl hs).trans (State.replyLane_keepsLaws _ l _)

theorem execSilenceDeadline_keepsLaws : OutcomeKeepsLaws s (execSilenceDeadline b s) := by
  refine .whenRunning ?_
  split
  · exact .refl s
  · rename_i c hc
    split
    · exact State.setCall_sameCaps hc ⟨rfl, rfl⟩
    · exact .refl s

theorem execClosingDeadline_keepsLaws : OutcomeKeepsLaws s (execClosingDeadline b s) := by
  refine .whenRunning ?_
  split
  · exact .refl s
  · split
    · exact (s.releaseHoldings_keepsLaws b _).trans (State.updCall_keepsLaws _ b fun _ => ⟨rfl, rfl⟩)
    · exact .refl s

theorem execRawLevelChange_keepsLaws (level : Level) : OutcomeKeepsLaws s (execRawLevelChange l level s) := by
  refine .next ?_
  split
  · exact .refl s
  · split <;> exact s.updLane_beside l fun _ => ⟨rfl, rfl, rfl⟩

theorem execDebounceDeadline_keepsLaws : OutcomeKeepsLaws s (execDebounceDeadline l s) := by
  have cleared : KeepsLaws s (s.updLane l fun x => { x with cond := x.cond.acceptClear }) :=
    s.updLane_beside l fun _ => ⟨rfl, rfl, rfl⟩
  refine .whenRunning ?_
  split
  · split
    · exact s.updLane_beside l fun _ => ⟨rfl, rfl, rfl⟩
    · dsimp only
      split
      · exact cleared.trans (Beside.keepsLaws ⟨rfl, rfl, rfl, rfl⟩)
      · exact cleared.trans (State.takePassage_keepsLaws _ l)
  · exact .refl s

theorem execBlockedDeadline_keepsLaws : OutcomeKeepsLaws s (execBlockedDeadline l s) := by
  have blocked : KeepsLaws s
      (s.updLane l fun x => { x with cond := { x.cond with blocked := true, blockedDeadline := none } }) :=
    s.updLane_beside l fun _ => ⟨rfl, rfl, rfl⟩
  refine .whenRunning ?_
  split
  · exact blocked.trans (Beside.keepsLaws ⟨rfl, rfl, rfl, rfl⟩)
  · exact .refl s

theorem execVerdictDeadline_keepsLaws : OutcomeKeepsLaws s (execVerdictDeadline l s) := by
  refine .whenRunning ?_
  split
  · rename_i e d he
    split
    · refine (((s.withdrawLookup_quiet l).beside (s.withdrawLookup_aside l)).keepsLaws.trans
        (State.countLane_keepsLaws _ l _)).trans
        (State.applyPolicy_keepsLaws _ l e (Lane.mayAdmit_waiting (e := e) (d := d) ?_))
      rw [State.countLane, State.updLane_lane]
      exact (congrArg Lane.ctx ((s.withdrawLookup_aside l).lane l)).trans he
    · exact .refl s
  all_goals exact .refl s

theorem execTakeDeadline_keepsLaws : OutcomeKeepsLaws s (execTakeDeadline l s) := by
  refine .whenRunning ?_
  split
  · split
    · exact s.dropOffer_keepsLaws l _
    · exact .refl s
  all_goals exact .refl s

theorem execWriteDeadline_keepsLaws : OutcomeKeepsLaws s (execWriteDeadline l s) := by
  refine .whenRunning ?_
  split
  · split
    · exact s.writeEnded_keepsLaws l _
    · exact .refl s
  · exact .refl s

theorem execPassageDeadline_keepsLaws (which : WhichEntry) :
    OutcomeKeepsLaws s (execPassageDeadline l which s) := by
  refine .whenRunning ?_
  split
  · rename_i e rest he
    obtain ⟨-, hl, hs⟩ := pickEntry_some he
    split
    · exact s.voidEntry_keepsLaws l e _ hl hs
    · exact .refl s
  · exact .refl s

theorem execCalendarSecond_keepsLaws : OutcomeKeepsLaws s (execCalendarSecond s) := by
  refine .next ?_
  split
  · rename_i t ht
    have taken := s.withClock_keepsLaws fun h => Clock.takeSecond_ranged h ht
    split
    · dsimp only
      split
      · exact taken
      · exact taken.trans (State.handDay_beside _ _).keepsLaws
    · exact .refl s
  · exact .refl s

/-! ## The events of the list flash port -/

theorem execPortGrant_keepsLaws : OutcomeKeepsLaws s (execPortGrant s) := by
  refine .whenRunning ?_
  split
  · exact .refl s
  · exact (s.arbitrate_beside.trans (State.carryOut_beside _)).keepsLaws

theorem execSuspendIssue_keepsLaws : OutcomeKeepsLaws s (execSuspendIssue s) := by
  refine .whenRunning (Beside.keepsLaws ?_)
  repeat' split
  all_goals exact ⟨rfl, rfl, rfl, rfl⟩

theorem execSuspendEnd_keepsLaws (status : SuspendStatus) : OutcomeKeepsLaws s (execSuspendEnd status s) := by
  refine .whenRunning ?_
  split
  · exact ((s.suspendEnded_beside status).trans (State.arbitrate_beside _)).keepsLaws
  · exact .refl s

theorem execPageReadEnd_keepsLaws (reads : FlashReads) : OutcomeKeepsLaws s (execPageReadEnd reads s) := by
  have counted := (s.endRead_beside reads).keepsLaws
  refine .next ?_
  split
  · exact (counted.trans (State.readEnded_keepsLaws _ _ _)).trans (State.arbitrate_beside _).keepsLaws
  · exact counted.trans (State.coldRead_keepsLaws _ _ _)
  · exact .refl s

theorem execPageProgramEnd_keepsLaws (good : Bool) : OutcomeKeepsLaws s (execPageProgramEnd good s) := by
  refine .whenRunning ?_
  split
  · refine (Beside.trans ?_ (State.arbitrate_beside _)).keepsLaws
    split
    · exact s.failJob_beside _
    · exact s.programEnded_beside good
  · exact .refl s

theorem execSectorEraseEnd_keepsLaws (good : Bool) : OutcomeKeepsLaws s (execSectorEraseEnd good s) := by
  refine .whenRunning ?_
  split
  · refine (Beside.trans ?_ (State.arbitrate_beside _)).keepsLaws
    split
    · exact s.failJob_beside _
    · exact s.eraseEnded_beside good
  · exact .refl s

theorem execFlashResetEnd_keepsLaws : OutcomeKeepsLaws s (execFlashResetEnd s) := by
  refine .next ?_
  split
  · exact ((s.withPort_beside _).trans (State.arbitrate_beside _)).keepsLaws
  · exact (s.withPort_beside _).keepsLaws
  · split
    · exact s.finishUnread_keepsLaws none
    · exact (s.coldStage_beside _ _).keepsLaws
  · exact .refl s

theorem execOperationTimeLimit_keepsLaws : OutcomeKeepsLaws s (execOperationTimeLimit s) := by
  refine .whenRunning ?_
  split
  · split
    · exact (s.failJob_beside _).keepsLaws
    · exact .refl s
  case h_2 | h_3 => exact s.actLimit_beside.keepsLaws
  all_goals exact .refl s

theorem execFlashReadyTimeout_keepsLaws : OutcomeKeepsLaws s (execFlashReadyTimeout s) := by
  refine .next ?_
  split
  · split
    · exact s.finishUnread_keepsLaws _
    · exact .refl s
  · exact .refl s

/-! ## The pins, the supplies and RESTART -/

theorem execResetInputAssert_keepsLaws : OutcomeKeepsLaws s (execResetInputAssert s) := by
  refine .next ?_
  split
  · exact .refl s
  · exact s.enterHold_keepsLaws.trans (State.withKeep_beside _ _).keepsLaws

theorem execResetInputRelease_keepsLaws : OutcomeKeepsLaws s (execResetInputRelease s) := by
  refine .next ?_
  split
  · exact (s.withKeep_beside _).keepsLaws.trans (State.release_keepsLaws _)
  · exact .refl s

theorem execCoreSupplyRise_keepsLaws (low : Bool) : OutcomeKeepsLaws s (execCoreSupplyRise low s) := by
  refine .next ?_
  split
  · exact .refl s
  · exact (s.withKeep_beside _).keepsLaws.trans (State.release_keepsLaws _)

theorem execCoreSupplyFall_keepsLaws : OutcomeKeepsLaws s (execCoreSupplyFall s) := by
  refine .next ?_
  split
  · exact s.enterHold_keepsLaws.trans (State.withKeep_beside _ _).keepsLaws
  · exact .refl s

theorem execRestart_keepsLaws (fields : Fields Unit) : OutcomeKeepsLaws s (execRestart fields s) := by
  refine (State.onTransfer_keepsLaws ?_).next
  cases fields with
  | misfit => exact State.setReply_keepsLaws _ _
  | fit => exact State.beginRestart_keepsLaws _ _

/-! ## The commands of the station port -/

theorem execReadStats_keepsLaws (fields : Fields Bool) : OutcomeKeepsLaws s (execReadStats fields s) := by
  refine .onStation fun clear t => ?_
  dsimp only
  split
  · have cleared : KeepsLaws t (t.withLanes (t.lanes.map fun lane => { lane with stats := LaneStats.zero })) :=
      t.mapLanes_keepsLaws (fun _ => Lane.listLaw_of_still rfl rfl) fun _ => rfl
    exact cleared.trans (Beside.keepsLaws ⟨rfl, rfl, rfl, rfl⟩)
  · exact .refl t

theorem execSetLane_keepsLaws (fields : Fields LaneArgs) : OutcomeKeepsLaws s (execSetLane fields s) := by
  refine .onStation fun a t => onLaneCode_keepsLaws _ t fun l => ?_
  split
  · split
    · rename_i h; exact t.setRole_keepsLaws l _ h
    · exact .refl t
  · exact .refl t

theorem execSetLanding_keepsLaws (fields : Fields LandingArgs) : OutcomeKeepsLaws s (execSetLanding fields s) := by
  refine .onStation fun a t => ?_
  split
  · rename_i h; exact t.setLanding_keepsLaws (landingOf_valid h)
  · exact .refl t

theorem execWriteFare_keepsLaws (fields : Fields WriteFareArgs) : OutcomeKeepsLaws s (execWriteFare fields s) := by
  refine .onStation fun a t => Beside.keepsLaws ?_
  repeat' split
  all_goals exact ⟨rfl, rfl, rfl, rfl⟩

theorem execStagePlan_keepsLaws (fields : Fields PlanArgs) : OutcomeKeepsLaws s (execStagePlan fields s) := by
  refine .onStation fun a t => onBerthCode_keepsLaws _ t fun b => ?_
  split
  · rename_i h; exact t.setPlan_keepsLaws b fun q hq => Option.some.inj hq ▸ h
  · exact .refl t

theorem execListAdd_keepsLaws (fields : Fields (List AddEntry)) : OutcomeKeepsLaws s (execListAdd fields s) := by
  refine .onStation fun a t => ?_
  split
  · split
    · exact (t.addToList_beside _).keepsLaws
    · exact .refl t
  · exact .refl t

theorem execLogDrop_keepsLaws (fields : Fields DropArgs) : OutcomeKeepsLaws s (execLogDrop fields s) := by
  refine .onStation fun a t => Beside.keepsLaws ?_
  unfold State.takeDrop
  repeat' split
  all_goals exact ⟨rfl, rfl, rfl, rfl⟩

theorem execStoreSettings_keepsLaws (fields : Fields Unit) : OutcomeKeepsLaws s (execStoreSettings fields s) := by
  refine .onStation fun _ t => Beside.keepsLaws ?_
  split <;> exact ⟨rfl, rfl, rfl, rfl⟩

end

/-! ## The step -/

/-- Every command keeps the laws. -/
theorem exec_keepsLaws (i : Instr) (s : State) : OutcomeKeepsLaws s (exec i s) := by
  cases i with
  | tap l fields => exact execTap_keepsLaws s l fields
  | take l => exact execTake_keepsLaws s l
  | wroteOk l => exact execWroteOk_keepsLaws s l
  | wroteFailed l => exact execWroteFailed_keepsLaws s l
  | laneStatus l => exact .onLane (s.replyLane_keepsLaws l _)
  | laneBadFrame l => exact .onLane ((s.countLane_keepsLaws l _).trans (State.replyLane_keepsLaws _ l _))
  | laneUnknownMessage l => exact .onLane (s.replyLane_keepsLaws l _)
  | arrive b fields => exact .onDock fun a t => t.takeArrive_keepsLaws b a
  | rampOpen b fields => exact .onDock fun _ t => t.takeRampOpen_keepsLaws b
  | countQuery b fields => exact .onDock fun _ t => .refl t
  | departReq b fields => exact .onDock fun _ t => t.takeDepartReq_keepsLaws b
  | handoverTaken b fields => exact .onDock fun _ t => t.takeHandover_keepsLaws b
  | dockBadFrame b => exact .whenRunning (s.replyDock_keepsLaws b none)
  | dockUnknownMessage b => exact .onDock fun _ t => .refl t
  | silenceDeadline b => exact execSilenceDeadline_keepsLaws s b
  | closingDeadline b => exact execClosingDeadline_keepsLaws s b
  | berthCommit b l => exact .whenRunning (s.takeFromLane_keepsLaws b l _)
  | berthRelease b l => exact .whenRunning (s.takeFromLane_keepsLaws b l _)
  | rawLevelChange l level => exact execRawLevelChange_keepsLaws s l level
  | debounceDeadline l => exact execDebounceDeadline_keepsLaws s l
  | blockedDeadline l => exact execBlockedDeadline_keepsLaws s l
  | verdictDeadline l => exact execVerdictDeadline_keepsLaws s l
  | takeDeadline l => exact execTakeDeadline_keepsLaws s l
  | writeDeadline l => exact execWriteDeadline_keepsLaws s l
  | passageDeadline l which => exact execPassageDeadline_keepsLaws s l which
  | calendarSecond => exact execCalendarSecond_keepsLaws s
  | readStatus fields => exact .onStation fun _ t => Beside.keepsLaws ⟨rfl, rfl, rfl, rfl⟩
  | readStats fields => exact execReadStats_keepsLaws s fields
  | setClock fields => exact .onStation fun a t => t.takeSetClock_keepsLaws a
  | setLane fields => exact execSetLane_keepsLaws s fields
  | setLanding fields => exact execSetLanding_keepsLaws s fields
  | writeFare fields => exact execWriteFare_keepsLaws s fields
  | readFare fields => exact .onStation fun _ t => .refl t
  | stagePlan fields => exact execStagePlan_keepsLaws s fields
  | cancelPlan fields => exact .onStation fun _ t => onBerthCode_keepsLaws _ t fun b => t.setPlan_keepsLaws b nofun
  | setCap fields => exact .onStation fun _ t => onBerthCode_keepsLaws _ t fun b => t.takeSetCap_keepsLaws b _
  | closeBerth fields => exact .onStation fun _ t => onBerthCode_keepsLaws _ t fun b => t.takeClose_keepsLaws b
  | reopenBerth fields => exact .onStation fun _ t => onBerthCode_keepsLaws _ t fun b => t.takeReopen_keepsLaws b
  | forceVacate fields => exact .onStation fun _ t => onBerthCode_keepsLaws _ t fun b => t.takeVacate_keepsLaws b
  | laneClear fields => exact .onStation fun _ t => onLaneCode_keepsLaws _ t fun l => t.takeClear_keepsLaws l
  | listBegin fields => exact .onStation fun _ t => t.takeListBegin_beside.keepsLaws
  | listAdd fields => exact execListAdd_keepsLaws s fields
  | listCommit fields => exact .onStation fun _ t => t.takeListCommit_beside.keepsLaws
  | logPeek fields => exact .onStation fun _ t => .refl t
  | logDrop fields => exact execLogDrop_keepsLaws s fields
  | storeSettings fields => exact execStoreSettings_keepsLaws s fields
  | restart fields => exact execRestart_keepsLaws s fields
  | rttQuery fields => exact .onStation fun _ t => .refl t
  | emptyFrame => exact (State.onTransfer_keepsLaws (.refl _)).next
  | stationBadFrame => exact (State.onTransfer_keepsLaws (State.setReply_keepsLaws _ _)).next
  | stationUnknownCommand kind => exact (State.onTransfer_keepsLaws (State.setReply_keepsLaws _ _)).next
  | portGrant => exact execPortGrant_keepsLaws s
  | suspendIssue => exact execSuspendIssue_keepsLaws s
  | suspendEnd status => exact execSuspendEnd_keepsLaws s status
  | pageReadEnd reads => exact execPageReadEnd_keepsLaws s reads
  | pageProgramEnd good => exact execPageProgramEnd_keepsLaws s good
  | sectorEraseEnd good => exact execSectorEraseEnd_keepsLaws s good
  | flashResetEnd => exact execFlashResetEnd_keepsLaws s
  | operationTimeLimit => exact execOperationTimeLimit_keepsLaws s
  | resetInputAssert => exact execResetInputAssert_keepsLaws s
  | resetInputRelease => exact execResetInputRelease_keepsLaws s
  | coreSupplyRise low => exact execCoreSupplyRise_keepsLaws s low
  | coreSupplyFall => exact execCoreSupplyFall_keepsLaws s
  | retentionSupplyDip => exact (s.withKeep_beside _).keepsLaws.next
  | flashReadyTimeout => exact execFlashReadyTimeout_keepsLaws s

/-- One millisecond keeps them (log 2). -/
theorem State.tick_keepsLaws (s : State) : KeepsLaws s s.tick := by
  unfold State.tick
  split
  · exact s.passTime_keepsLaws.trans (State.takeAsked_beside _).keepsLaws
  · exact s.passTime_keepsLaws
  · exact s.passTime_keepsLaws.trans (State.warmStep_keepsLaws _ _)
  · exact (s.withKeep_beside _).keepsLaws
  · exact .refl s

/-- Every step keeps them. -/
theorem step_keepsLaws {s t : State} (h : step s = .next t) : KeepsLaws s t := by
  unfold step at h
  split at h
  · cases h
    exact s.tick_keepsLaws
  · rename_i c rest _
    exact KeepsLaws.trans (t := s.withPending rest) (Beside.keepsLaws ⟨rfl, rfl, rfl, rfl⟩) (exec_keepsLaws c _ t h)

/-- Settles O7: every step keeps the law of the lists. -/
theorem everyStepKeepsTheLaneLists : Obligations.EveryStepKeepsTheLaneLists := by
  unfold Obligations.EveryStepKeepsTheLaneLists
  exact fun s t hs h => (step_keepsLaws h).lists hs

/-- Settles O12: every step keeps the laws of the settings, the calendar and the capacities. -/
theorem everyStepKeepsTheRanges : Obligations.EveryStepKeepsTheRanges := by
  unfold Obligations.EveryStepKeepsTheRanges
  exact fun s t h => ⟨(step_keepsLaws h).settings, (step_keepsLaws h).calendar, (step_keepsLaws h).capacity⟩

end Sys2Proof.Machine
end

section
/-!
PROOF. The lane link's frames that change one lane (R42, R44, R50 to R52, R56 to R58, R66), and the timers of an offer and
of an entry (R47, R59, R60).
-/
namespace Sys2Proof.Machine

/-! ## Frames that only form a reply -/

/-- Two changes of one lane are one. -/
theorem State.updLane_updLane (s : State) (l : LaneId) (f g : Lane → Lane) :
    (s.updLane l f).updLane l g = s.updLane l fun x => g (f x) := by
  unfold State.updLane
  rw [State.setLane_setLane, State.setLane_lane]

/-- A statistic raised and a reply formed: one change of the lane. -/
theorem State.countLane_replyLane (s : State) (l : LaneId) (f : LaneStats → LaneStats) (r : Option LaneReply) :
    (s.countLane l f).replyLane l r
      = s.setLane l { s.lane l with stats := f (s.lane l).stats, reply := r } :=
  s.updLane_updLane l _ _

/-- Settles O18: each frame reaches its lane, and its effect is one replacement of that lane. -/
theorem laneFramesWithoutEffectOnlyReply : Obligations.LaneFramesWithoutEffectOnlyReply := by
  unfold Obligations.LaneFramesWithoutEffectOnlyReply
  intro s l fields hr ht
  refine ⟨congrArg _ (State.onLane_of hr ht _), ?_, congrArg _ (State.onLane_of hr ht _), fun hbad => ?_⟩
  · exact congrArg _ ((State.onLane_of hr ht _).trans (s.countLane_replyLane l _ _))
  · refine congrArg _ ((State.onLane_of hr ht _).trans ?_)
    simp only [hbad]
    exact s.countLane_replyLane l _ _

/-! ## TAKE -/

theorem Lane.answerTake_offer {x : Lane} {o : Offer} (h : x.ctx = .offer o) (now : Nat) :
    x.answerTake now = { x with
      ctx := .free, takeDeadline := none, entries := x.entries ++ [o.entry x.role x.settings now]
      reply := some (.verdict (offerFrame o)) } := by
  simp only [Lane.answerTake, h]

theorem Lane.answerTake_refused {x : Lane} {r : Refused} (h : x.ctx = .refused r) (now : Nat) :
    x.answerTake now = { x with ctx := .free, reply := some (.verdict (refusedFrame r)) } := by
  simp only [Lane.answerTake, h]

theorem Lane.answerTake_free {x : Lane} (h : x.ctx = .free) (now : Nat) :
    x.answerTake now = { x with reply := some (.verdict noVerdictFrame) } := by
  simp only [Lane.answerTake, h]

/-- A TAKE outside WAITING_LIST is answered (R50, R52). -/
theorem exec_take_answered {s : State} {l : LaneId} (hr : s.keep.run = .running) (ht : (s.lane l).takeHeld = false)
    (hw : ∀ e d, (s.lane l).ctx ≠ .waiting e d) :
    exec (.take l) s = .next (s.setLane l ((s.lane l).answerTake s.now)) := by
  refine congrArg _ ((State.onLane_of hr ht _).trans ?_)
  split
  · rename_i e d h
    exact absurd h (hw e d)
  all_goals rfl

/-- A TAKE in WAITING_LIST is held (R51). -/
theorem exec_take_waiting {s : State} {l : LaneId} (hr : s.keep.run = .running) (ht : (s.lane l).takeHeld = false)
    {e : Evaluation} {d : Nat} (hw : (s.lane l).ctx = .waiting e d) :
    exec (.take l) s = .next (s.setLane l { s.lane l with takeHeld := true, reply := none }) := by
  refine congrArg _ ((State.onLane_of hr ht _).trans ?_)
  split
  · rfl
  all_goals
    rename_i h
    cases hw.symm.trans h

theorem Offer.entry_of_card {o : Offer} (h : o.medium = .card) (role : Role) (settings : LaneSettings) (now : Nat) :
    (o.entry role settings now).phase = .awaitWrite ∧ (o.entry role settings now).confirmation = .unconfirmed
    ∧ (o.entry role settings now).deadline = now + settings.writeTimeout := by
  simp [Offer.entry, h]

theorem Offer.entry_of_code {o : Offer} (h : o.medium = .code) (role : Role) (settings : LaneSettings) (now : Nat) :
    (o.entry role settings now).phase = .awaitPassage ∧ (o.entry role settings now).confirmation = .notNeeded
    ∧ (o.entry role settings now).deadline = now + settings.passageTimeout * 1000 := by
  simp [Offer.entry, h]

/-- Only a boarding lane's entry names a berth and a line (R50). -/
theorem Offer.entry_berth (o : Offer) (role : Role) (settings : LaneSettings) (now : Nat) :
    (o.entry role settings now).berth = role.boards
    ∧ (o.entry role settings now).line = role.boards.map fun _ => o.line := ⟨rfl, rfl⟩

/-- Settles O26, by the phase of the context; then the fields of the entry by the offer's medium and the lane's role. -/
theorem takeReturnsTheVerdictOrIsHeld : Obligations.TakeReturnsTheVerdictOrIsHeld := by
  unfold Obligations.TakeReturnsTheVerdictOrIsHeld
  refine ⟨fun s l hr ht => ⟨fun o h => ?_, fun r h => ?_, fun e d h => exec_take_waiting hr ht h, fun h => ?_⟩,
    fun o role settings now => ⟨fun h => Offer.entry_of_card h role settings now,
      fun h => Offer.entry_of_code h role settings now, rfl, rfl, rfl, rfl, rfl, rfl, rfl, rfl, ?_, ?_, ?_⟩⟩
  · rw [exec_take_answered hr ht (by simp [h]), Lane.answerTake_offer h]
  · rw [exec_take_answered hr ht (by simp [h]), Lane.answerTake_refused h]
  · rw [exec_take_answered hr ht (by simp [h]), Lane.answerTake_free h]
  all_goals
    rintro rfl
    exact o.entry_berth _ settings now

/-! ## WROTE and the write deadline -/

theorem Entry.awaitsWrite_of {e : Entry} (h : e.phase = .awaitWrite) : e.awaitsWrite = true := decide_eq_true h

theorem Entry.not_awaitsWrite {e : Entry} (h : e.phase = .awaitPassage) : e.awaitsWrite = false := by
  simp [Entry.awaitsWrite, h]

/-- Older entries past their write do not answer for the one that awaits it. -/
theorem find_awaitsWrite {es older younger : List Entry} {e : Entry} (hes : es = older ++ e :: younger)
    (ho : ∀ x ∈ older, x.phase = .awaitPassage) (he : e.phase = .awaitWrite) :
    es.find? Entry.awaitsWrite = some e :=
  hes ▸ entries_find (fun x hx => Entry.not_awaitsWrite (ho x hx)) (Entry.awaitsWrite_of he)

theorem find_awaitsWrite_none {es : List Entry} (h : ∀ x ∈ es, x.phase = .awaitPassage) :
    es.find? Entry.awaitsWrite = none :=
  List.find?_eq_none.mpr fun x hx => by simp [Entry.not_awaitsWrite (h x hx)]

/-- The entry that awaits its write moves in its place (R57, R59). -/
theorem Lane.writeEnded_of {x : Lane} {older younger : List Entry} {e : Entry} (hes : x.entries = older ++ e :: younger)
    (ho : ∀ y ∈ older, y.phase = .awaitPassage) (he : e.phase = .awaitWrite) (c : Confirmation) (now : Nat) :
    x.writeEnded c now
      = { x with entries := older ++ e.toPassage c (now + x.settings.passageTimeout * 1000) :: younger } := by
  unfold Lane.writeEnded
  rw [hes, entries_replace _ (fun y hy => Entry.not_awaitsWrite (ho y hy)) (Entry.awaitsWrite_of he)]

/-- WROTE without an entry that awaits it, ok or failed (R56). -/
theorem exec_wrote_nothingPending {s : State} {l : LaneId} (hr : s.keep.run = .running)
    (ht : (s.lane l).takeHeld = false) (h : ∀ x ∈ (s.lane l).entries, x.phase = .awaitPassage) :
    exec (.wroteOk l) s = .next (s.setLane l { s.lane l with reply := some .wroteNothingPending })
    ∧ exec (.wroteFailed l) s = .next (s.setLane l { s.lane l with reply := some .wroteNothingPending }) := by
  constructor
  all_goals
    refine congrArg _ ((State.onLane_of hr ht _).trans ?_)
    simp only [find_awaitsWrite_none h]
    rfl

/-- Settles O27: the entry that awaits its write is found, and moved in its place. -/
theorem writeReportOrDeadlineMovesTheEntry : Obligations.WriteReportOrDeadlineMovesTheEntry := by
  unfold Obligations.WriteReportOrDeadlineMovesTheEntry
  refine fun s l hr => ⟨fun older e younger hes ho he => ⟨fun ht => ?_, fun hd => ?_⟩,
    fun h ht => exec_wrote_nothingPending hr ht h⟩
  · refine congrArg _ ((State.onLane_of hr ht _).trans ?_)
    simp only [find_awaitsWrite hes ho he, State.updLane, Lane.writeEnded_of hes ho he]
    rfl
  · refine congrArg _ ((State.whenRunning_of hr _).trans ?_)
    simp only [find_awaitsWrite hes ho he, if_pos hd, State.updLane, Lane.writeEnded_of hes ho he]
    rfl

/-! ## Voids -/

/-- A void: the record into the slot, the held use released, the lane and the message to its berth (R62). -/
theorem State.voidEntry_eq (s : State) (l : LaneId) (e : Entry) (rest : List Entry) (reason : VoidReason) :
    s.voidEntry l e rest reason
      = (((s.withLog (s.log.appendReserved (e.voidContent l s.clock.calendar reason))).withTaps
          (tapRelease s.taps e.tokenId)).setLane l { s.lane l with
            entries := rest
            stats := { (s.lane l).stats with voided := bump (s.lane l).stats.voided } }).sendHolding
        e.berth l .release := rfl

/-- The entry's place says which of the two the timer means (R60). -/
theorem pickEntry_of {which : WhichEntry} {older younger : List Entry} (e : Entry) (ho : which = .older → older = [])
    (hy : which = .younger → older.length = 1) :
    pickEntry which (older ++ e :: younger) = some (e, older ++ younger) := by
  cases which with
  | older => rw [ho rfl]; rfl
  | younger =>
    obtain ⟨x, rfl⟩ := List.length_eq_one_iff.mp (hy rfl)
    rfl

/-- Settles O28: the entry is found by its phase, or by its place, and voided. -/
theorem writeFailureOrPassageDeadlineVoids : Obligations.WriteFailureOrPassageDeadlineVoids := by
  unfold Obligations.WriteFailureOrPassageDeadlineVoids
  refine fun s l older younger e hr hes => ⟨fun ho he ht => ?_, fun which hold hyoung he hd => ?_⟩
  · have erased : (s.lane l).entries.eraseP Entry.awaitsWrite = older ++ younger :=
      hes ▸ entries_erase (fun x hx => Entry.not_awaitsWrite (ho x hx)) (Entry.awaitsWrite_of he)
    refine congrArg _ ((State.onLane_of hr ht _).trans ?_)
    simp only [find_awaitsWrite hes ho he, erased, State.voidEntry_eq, State.replyLane, State.updLane,
      State.sendHolding_setLane, State.sendHolding_lane, State.setLane_setLane, State.setLane_lane]
    rfl
  · refine congrArg _ ((State.whenRunning_of hr _).trans ?_)
    simp only [hes, pickEntry_of e hold hyoung, if_pos (And.intro he hd), State.voidEntry_eq]
    rfl

/-! ## The take deadline -/

theorem State.reached_of {s : State} {o : Option Nat} {d : Nat} (h : o = some d) (hd : d ≤ s.now) :
    s.reached o = true := by
  rw [h]
  exact decide_eq_true hd

/-- Settles O29: the timer drops the offer that its lane holds. -/
theorem takeDeadlineDropsTheOffer : Obligations.TakeDeadlineDropsTheOffer := by
  unfold Obligations.TakeDeadlineDropsTheOffer
  intro s l o d hr ho ht hd
  refine congrArg _ ((State.whenRunning_of hr _).trans ?_)
  simp only [ho, State.reached_of ht hd, if_true]
  rfl

end Sys2Proof.Machine
end

section
/-!
PROOF. The token record in the fields of a TAP (R44, R91, R224): when it is accepted, and the ranges of what it holds.
-/
namespace Sys2Proof.Machine

/-! ## Numbers spelled by bytes -/

theorem bytesToNat_append (bs : List Byte) (b : Byte) : bytesToNat (bs ++ [b]) = bytesToNat bs * 256 + b.toNat := by
  simp only [bytesToNat, List.foldl_append, List.foldl_cons, List.foldl_nil]

theorem bytesToNat_lt (bs : List Byte) : bytesToNat bs < 256 ^ bs.length := by
  induction bs using List.reverseRecOn with
  | nil => decide
  | append_singleton bs b ih =>
    have hb := b.isLt
    rw [bytesToNat_append, List.length_append, List.length_singleton, pow_succ]
    omega

/-- `n` bytes spell a number below 256 to the power `n`. -/
theorem numAt_lt (bs : List Byte) (i n : Nat) : numAt bs i n < 256 ^ n :=
  (bytesToNat_lt _).trans_le (Nat.pow_le_pow_right (by decide) (List.length_take_le n _))

/-- A number in one byte is that byte. -/
theorem numAt_one {bs : List Byte} {i : Nat} (h : i < bs.length) : numAt bs i 1 = (byteAt bs i).toNat := by
  rw [numAt, List.drop_eq_getElem_cons h, List.take_succ_cons, List.take_zero]
  simp [bytesToNat, byteAt, h]

/-! ## The record -/

theorem mediumOf_eq_none (b : Byte) : mediumOf b = none ↔ ¬ (b.toNat = 1 ∨ b.toNat = 2) := by
  have card : b = 1 ↔ b.toNat = 1 := BitVec.toNat_inj.symm
  have code : b = 2 ↔ b.toNat = 2 := BitVec.toNat_inj.symm
  simp only [mediumOf, card, code]
  by_cases h : b.toNat = 1
  · simp [h]
  · by_cases k : b.toNat = 2 <;> simp [h, k]

/-- The record that accepted fields spell (R224). -/
def tokenOf (bs : List Byte) (m : Medium) : TokenRecord :=
  { id := BitVec.ofNat 56 (numAt bs 0 7), medium := m, productCode := numAt bs 8 1 % 64, validFrom := numAt bs 9 2
    validUntil := numAt bs 11 2, rides := numAt bs 13 1, storedValue := numAt bs 14 2
    usesAllowed := numAt bs 16 1 % 16
    last := match m with | .card => lastAdmissionOf bs | .code => none }

theorem decodeToken_of_medium {bs : List Byte} {m : Medium} (hlen : bs.length = 28)
    (hm : mediumOf (byteAt bs 7) = some m) :
    decodeToken bs = if numAt bs 0 7 = 0 then none else some (tokenOf bs m) := by
  simp only [decodeToken, hlen, hm, if_true]
  rfl

/-- Fields are accepted with their length, a medium and an id other than 0. -/
theorem decodeToken_eq_some {bs : List Byte} {t : TokenRecord} :
    decodeToken bs = some t ↔
      bs.length = 28 ∧ ∃ m, mediumOf (byteAt bs 7) = some m ∧ numAt bs 0 7 ≠ 0 ∧ tokenOf bs m = t := by
  by_cases hlen : bs.length = 28
  · cases hm : mediumOf (byteAt bs 7) with
    | none => simp [decodeToken, hlen, hm]
    | some m =>
      rw [decodeToken_of_medium hlen hm]
      by_cases hid : numAt bs 0 7 = 0 <;> simp [hlen, hid]
  · simp [decodeToken, hlen]

theorem decodeToken_eq_none {bs : List Byte} :
    decodeToken bs = none ↔
      ¬ (bs.length = 28 ∧ numAt bs 0 7 ≠ 0 ∧ (numAt bs 7 1 = 1 ∨ numAt bs 7 1 = 2)) := by
  rw [Option.eq_none_iff_forall_ne_some, ← not_iff_not]
  push Not
  simp only [decodeToken_eq_some]
  constructor
  · rintro ⟨t, hlen, m, hm, hid, -⟩
    refine ⟨hlen, hid, ?_⟩
    rw [numAt_one (by omega)]
    by_contra hno
    rw [(mediumOf_eq_none _).mpr hno] at hm
    cases hm
  · rintro ⟨hlen, hid, hmed⟩
    rw [numAt_one (by omega)] at hmed
    cases hm : mediumOf (byteAt bs 7) with
    | none => exact absurd hmed ((mediumOf_eq_none _).mp hm)
    | some m => exact ⟨_, hlen, m, rfl, hid, rfl⟩

/-- A CARD's last admission lies in its ranges (R91). -/
theorem lastAdmissionOf_ranges {bs : List Byte} {a : CardAdmission} (h : lastAdmissionOf bs = some a) :
    a.time.second ≤ 86399 ∧ a.landing ≤ 4095 ∧ a.line ≤ 15 := by
  unfold lastAdmissionOf at h
  split at h
  · split at h
    · split at h
      · rename_i hs
        cases h
        exact ⟨hs, Nat.le_of_lt_succ (Nat.mod_lt _ (by decide)), Nat.le_of_lt_succ (Nat.mod_lt _ (by decide))⟩
      · cases h
    · cases h
  · cases h

theorem tokenOf_id (bs : List Byte) (m : Medium) : (tokenOf bs m).id.toNat = numAt bs 0 7 :=
  (BitVec.toNat_ofNat _ _).trans (Nat.mod_eq_of_lt (numAt_lt bs 0 7))

/-- Settles O19, by the fields that are accepted and the record they spell. -/
theorem tokenRecordNeedsAnIdAndAMedium : Obligations.TokenRecordNeedsAnIdAndAMedium := by
  unfold Obligations.TokenRecordNeedsAnIdAndAMedium
  refine fun fields => ⟨decodeToken_eq_none, fun t h => ?_⟩
  obtain ⟨-, m, -, -, rfl⟩ := decodeToken_eq_some.mp h
  refine ⟨tokenOf_id fields m, Nat.le_of_lt_succ (Nat.mod_lt _ (by decide)), Nat.le_of_lt_succ (numAt_lt fields 13 1),
    Nat.le_of_lt_succ (numAt_lt fields 14 2), Nat.le_of_lt_succ (Nat.mod_lt _ (by decide)), ?_, fun a ha => ?_⟩
  · rintro (rfl : m = .code)
    rfl
  · cases m with
    | card => exact lastAdmissionOf_ranges ha
    | code => cases ha

end Sys2Proof.Machine
end

section
/-!
PROOF. The station's commands that set the settings (R41, R104, R184, R207): what each refuses and what it sets.
-/
namespace Sys2Proof.Machine

/-- A command whose owner changes more than the reply; the change and the collection need no order. -/
theorem State.onStation_changed {α : Type} {s t u : State} (h : s.keep.run = .running) {cmd : Command} {a : α}
    {f : α → State → State × Answer} (x : Answer) (hf : f a s.collect = (u, x))
    (hu : ∀ r, u.setReply r = t.answered r) : s.onStation cmd (.fit a) f = t.answered (x.reply cmd) := by
  rw [State.onStation_fit h, hf]
  exact hu _

/-! ## SET_LANE -/

theorem Lane.idle_iff (x : Lane) : x.idle = true ↔ x.ctx = .free ∧ x.entries = [] := by simp [Lane.idle]

theorem State.setRole_taken {s : State} {l : LaneId} {role : Role} (v : LaneSettings)
    (h : role = (s.lane l).role ∨ ((s.lane l).ctx = .free ∧ (s.lane l).entries = [])) :
    s.setRole l role v = (s.setLane l { s.lane l with role := role, settings := v }, .yes) :=
  if_pos (h.imp_right (s.lane l).idle_iff.mpr)

theorem State.setRole_busy {s : State} {l : LaneId} {role : Role} (v : LaneSettings) (h : role ≠ (s.lane l).role)
    (k : (s.lane l).ctx ≠ .free ∨ (s.lane l).entries ≠ []) : s.setRole l role v = (s, .no .busy) := by
  refine if_neg (not_or.mpr ⟨h, fun hi => ?_⟩)
  obtain ⟨hc, he⟩ := (s.lane l).idle_iff.mp hi
  exact k.elim (· hc) (· he)

/-- SET_LANE, a lane and a role named: its values are judged, then the lane's state (R41, log 36). -/
theorem exec_setLane {s : State} (hr : s.keep.run = .running) {a : LaneArgs} {l : LaneId} {role : Role}
    (hl : LaneId.ofCode a.lane = some l) (hrole : a.role = some role) :
    (laneSettingsValid a.settings = false →
      exec (.setLane (.fit a)) s = .next (s.answered (.refused .setLane .badArgument .nothing)))
    ∧ (laneSettingsValid a.settings = true →
      ((role = (s.lane l).role ∨ ((s.lane l).ctx = .free ∧ (s.lane l).entries = [])) →
        exec (.setLane (.fit a)) s = .next ((s.setLane l { s.lane l with role := role, settings := a.settings }).answered
          (.ok .setLane .nothing)))
      ∧ (role ≠ (s.lane l).role → ((s.lane l).ctx ≠ .free ∨ (s.lane l).entries ≠ []) →
        exec (.setLane (.fit a)) s = .next (s.answered (.refused .setLane .busy .nothing)))) := by
  refine ⟨fun hv => ?_, fun hv => ⟨fun h => ?_, fun h k => ?_⟩⟩
  · refine congrArg Host.Outcome.next (State.onStation_answered hr (.no .badArgument) ?_)
    simp only [onLaneCode_some hl, hrole, hv, Bool.false_eq_true, if_false]
  · refine congrArg Host.Outcome.next (State.onStation_changed hr .yes
      (u := s.collect.setLane l { s.lane l with role := role, settings := a.settings }) ?_ fun _ => rfl)
    simp only [onLaneCode_some hl, hrole, hv, if_true]
    exact State.setRole_taken a.settings h
  · refine congrArg Host.Outcome.next (State.onStation_answered hr (.no .busy) ?_)
    simp only [onLaneCode_some hl, hrole, hv, if_true]
    exact State.setRole_busy a.settings h k

/-- SET_LANE with a code that names no lane or no role (R205). -/
theorem exec_setLane_unnamed {s : State} (hr : s.keep.run = .running) {a : LaneArgs}
    (h : LaneId.ofCode a.lane = none ∨ a.role = none) :
    exec (.setLane (.fit a)) s = .next (s.answered (.refused .setLane .badArgument .nothing)) := by
  refine congrArg Host.Outcome.next (State.onStation_answered hr (.no .badArgument) ?_)
  cases hl : LaneId.ofCode a.lane with
  | none => exact onLaneCode_none hl _ _
  | some l =>
    have hrole : a.role = none := h.resolve_left (by simp [hl])
    simp only [onLaneCode_some hl, hrole]

/-! ## SET_LANDING -/

/-- Six values in their ranges make the landing settings (R207). -/
theorem landingOf_eq {a : LandingArgs} {policy : FailPolicy} {log : Bool} (hp : a.failPolicy = some policy)
    (hl : a.logRefusals = some log)
    (hid : 1 ≤ a.landingId ∧ a.landingId ≤ 4095) (hpass : a.passback ≤ 600) (hmark : 1 ≤ a.watermark ∧ a.watermark ≤ 1023)
    (hgrace : 5 ≤ a.closingGrace ∧ a.closingGrace ≤ 60) :
    landingOf a = some { landingId := a.landingId, passback := a.passback, failPolicy := policy, logRefusals := log
                         watermark := a.watermark, closingGrace := a.closingGrace } := by
  simp only [landingOf, hp, hl]
  refine if_pos ?_
  simp only [Bool.and_eq_true, within_iff]
  exact ⟨⟨⟨hid, a.passback.zero_le, hpass⟩, hmark⟩, hgrace⟩

/-- One value outside its range: all six are refused. -/
theorem landingOf_none {a : LandingArgs}
    (h : a.failPolicy = none ∨ a.logRefusals = none ∨ a.landingId = 0 ∨ 4095 < a.landingId ∨ 600 < a.passback
      ∨ a.watermark = 0 ∨ 1023 < a.watermark ∨ a.closingGrace < 5 ∨ 60 < a.closingGrace) : landingOf a = none := by
  unfold landingOf
  split
  · rename_i hp hl
    refine if_neg ?_
    simp only [hp, hl, reduceCtorEq, false_or] at h
    simp only [Bool.and_eq_true, within_iff]
    omega
  · rfl

theorem exec_setLanding {s : State} (hr : s.keep.run = .running) {a : LandingArgs} {x : LandingSettings}
    (h : landingOf a = some x) :
    exec (.setLanding (.fit a)) s
      = .next ((s.withStation { s.station with landing := x }).answered (.ok .setLanding .nothing)) := by
  refine congrArg Host.Outcome.next (State.onStation_changed hr .yes
    (u := s.collect.withStation { s.collect.station with landing := x }) ?_ fun _ => rfl)
  simp only [h]

theorem exec_setLanding_refused {s : State} (hr : s.keep.run = .running) {a : LandingArgs} (h : landingOf a = none) :
    exec (.setLanding (.fit a)) s = .next (s.answered (.refused .setLanding .badArgument .nothing)) := by
  refine congrArg Host.Outcome.next (State.onStation_answered hr (.no .badArgument) ?_)
  simp only [h]

/-! ## WRITE_FARE -/

/-- A place in the table, with an entry of twelve bytes (R104). -/
theorem fareArgs_iff (a : WriteFareArgs) :
    (farePlaceValid a.page a.index && decide (a.entry.length = 12)) = true
      ↔ a.page ≤ 15 ∧ a.index ≤ 31 ∧ a.entry.length = 12 := by
  simp [farePlaceValid, within, and_assoc]

theorem exec_writeFare {s : State} (hr : s.keep.run = .running) {a : WriteFareArgs} {e : FareEntry}
    (h : a.page ≤ 15 ∧ a.index ≤ 31 ∧ a.entry.length = 12) (he : decodeFare a.entry = some e) :
    exec (.writeFare (.fit a)) s
      = .next ((s.withFare (s.fare.set (32 * a.page + a.index) e)).answered (.ok .writeFare .nothing)) := by
  refine congrArg Host.Outcome.next (State.onStation_changed hr .yes
    (u := s.collect.withFare (fareSet s.fare a.page a.index e)) ?_ fun _ => rfl)
  simp only [if_pos ((fareArgs_iff a).mpr h), he]
  rfl

theorem exec_writeFare_refused {s : State} (hr : s.keep.run = .running) {a : WriteFareArgs}
    (h : 15 < a.page ∨ 31 < a.index ∨ a.entry.length ≠ 12 ∨ decodeFare a.entry = none) :
    exec (.writeFare (.fit a)) s = .next (s.answered (.refused .writeFare .badArgument .nothing)) := by
  refine congrArg Host.Outcome.next (State.onStation_answered hr (.no .badArgument) ?_)
  split
  · rename_i hv
    obtain ⟨hp, hi, hlen⟩ := (fareArgs_iff a).mp hv
    have he : decodeFare a.entry = none :=
      ((h.resolve_left hp.not_gt).resolve_left hi.not_gt).resolve_left (not_not_intro hlen)
    simp only [he]
  · rfl

/-! ## STORE_SETTINGS -/

theorem exec_storeSettings_busy {s : State} (hr : s.keep.run = .running) (h : s.port.job ≠ none) :
    exec (.storeSettings (.fit ())) s = .next (s.answered (.refused .storeSettings .busy .nothing)) := by
  obtain ⟨j, hj⟩ := Option.ne_none_iff_exists'.mp h
  have hj : s.collect.port.job = some j := hj
  refine congrArg Host.Outcome.next (State.onStation_answered hr (.no .busy) ?_)
  simp only [hj]

/-- The copy is taken, and the job that writes it created (R184 step 1). -/
theorem exec_storeSettings {s : State} (hr : s.keep.run = .running) (h : s.port.job = none) :
    exec (.storeSettings (.fit ())) s
      = .next ((s.withPort { s.port with store := .storing, job := some (.settingsStore s.settingsCopy 0) }).arbitrate.answered
          (.ok .storeSettings .nothing)) := by
  have hj : s.collect.port.job = none := h
  refine congrArg Host.Outcome.next (State.onStation_changed hr .yes
    (u := (s.collect.withPort { s.port with store := .storing }).createJob (.settingsStore s.settingsCopy 0)) ?_ fun _ => rfl)
  simp only [hj]
  rfl

/-- Settles O50, by the four commands. -/
theorem stationSetsTheSettings : Obligations.StationSetsTheSettings := by
  unfold Obligations.StationSetsTheSettings
  refine fun s hr => ⟨fun a l role hl hrole => exec_setLane hr hl hrole, fun a h => exec_setLane_unnamed hr h,
    fun a policy log hp hl h1 h2 h3 h4 h5 h6 h7 =>
      exec_setLanding hr (landingOf_eq hp hl ⟨h1, h2⟩ h3 ⟨h4, h5⟩ ⟨h6, h7⟩),
    fun a h => exec_setLanding_refused hr (landingOf_none h),
    fun a => ⟨fun e hp hi hlen he => exec_writeFare hr ⟨hp, hi, hlen⟩ he, exec_writeFare_refused hr⟩,
    exec_storeSettings_busy hr,
    fun h => ⟨s.settingsCopy, exec_storeSettings hr h, rfl, fun l => PerLane.get_map Lane.image s.lanes l, rfl⟩⟩

end Sys2Proof.Machine
end

section
/-!
PROOF. A TAP with a good token record (R44, R45): what clearing the context does to the lane, and what the new evaluation
leaves of it.
-/
namespace Sys2Proof.Machine

/-! ## The context cleared -/

/-- A lane whose context a taken TAP has cleared (R45). -/
def Lane.clearedForTap (x : Lane) : Lane :=
  match x.ctx with
  | .free => x
  | .waiting _ _ =>
    { x with ctx := .free, stats := { x.stats with tapsSuperseded := bump x.stats.tapsSuperseded } }
  | .offer _ =>
    { x with ctx := .free, takeDeadline := none
             stats := { x.stats with offersDropped := bump x.stats.offersDropped } }
  | .refused _ => { x with ctx := .free }

theorem State.clearForTap_lane (s : State) (l : LaneId) :
    (s.clearForTap l).lane l = (s.lane l).clearedForTap := by
  cases h : (s.lane l).ctx with
  | free => simp only [State.clearForTap, Lane.clearedForTap, h]
  | waiting e d =>
    simp only [State.clearForTap, Lane.clearedForTap, h, State.countLane, State.cancelEvaluation, State.setContext,
      State.updLane_lane, (s.withdrawLookup_aside l).lane l]
  | offer o =>
    simp only [State.clearForTap, Lane.clearedForTap, h]
    exact (s.dropOffer_lane h).trans (Lane.dropped_offer h)
  | refused r => simp only [State.clearForTap, Lane.clearedForTap, h, State.setContext, State.updLane_lane]

theorem State.clearForTap_other (s : State) {k l : LaneId} (h : k ≠ l) : (s.clearForTap l).lane k = s.lane k := by
  unfold State.clearForTap
  split
  · rfl
  · exact (State.updLane_other _ _ h).trans ((State.updLane_other _ _ h).trans ((s.withdrawLookup_aside l).lane k))
  · exact s.dropOffer_other _ h
  · exact s.updLane_other _ h

theorem State.clearForTap_quiet (s : State) (l : LaneId) : Quiet s (s.clearForTap l) := by
  unfold State.clearForTap
  split
  · exact .refl s
  · exact (s.cancelEvaluation_quiet l).trans (State.countLane_quiet _ l _)
  · exact s.dropOffer_quiet l _
  · exact s.setContext_quiet l _

/-- Clearing the context leaves the take state, the entries, the reply and "taps". -/
theorem Lane.clearedForTap_keeps (x : Lane) :
    x.clearedForTap.takeHeld = x.takeHeld ∧ x.clearedForTap.entries = x.entries ∧ x.clearedForTap.reply = x.reply
    ∧ x.clearedForTap.stats.taps = x.stats.taps := by
  unfold Lane.clearedForTap
  split <;> exact ⟨rfl, rfl, rfl, rfl⟩

/-- A waiting evaluation counts as superseded. -/
theorem Lane.clearedForTap_superseded (x : Lane) :
    x.clearedForTap.stats.tapsSuperseded
      = match x.ctx with
        | .waiting _ _ => bump x.stats.tapsSuperseded
        | .free | .offer _ | .refused _ => x.stats.tapsSuperseded := by
  unfold Lane.clearedForTap
  cases x.ctx <;> rfl

/-- An offer counts as dropped. -/
theorem Lane.clearedForTap_dropped (x : Lane) :
    x.clearedForTap.stats.offersDropped
      = match x.ctx with
        | .offer _ => bump x.stats.offersDropped
        | .free | .waiting _ _ | .refused _ => x.stats.offersDropped := by
  unfold Lane.clearedForTap
  cases x.ctx <;> rfl

/-! ## The new evaluation -/

/-- An evaluation fills a lane's context, and leaves its entries, its reply and what a TAP counts. -/
structure Lane.Filled (x y : Lane) : Prop where
  ctx : y.ctx ≠ .free
  entries : y.entries = x.entries
  reply : y.reply = x.reply
  taps : y.stats.taps = x.stats.taps
  superseded : y.stats.tapsSuperseded = x.stats.tapsSuperseded
  dropped : y.stats.offersDropped = x.stats.offersDropped

/-- From `s` to `t` an evaluation filled the context of lane `l`; the other lanes stand. -/
structure Evaluated (s t : State) (l : LaneId) : Prop where
  lane : (s.lane l).Filled (t.lane l)
  other : ∀ k, k ≠ l → t.lane k = s.lane k

/-- The lane replaced by one whose context is filled. -/
theorem Evaluated.of_setLane {s t : State} {l : LaneId} {x : Lane} (h : ∀ k, t.lane k = (s.setLane l x).lane k)
    (hx : (s.lane l).Filled x) : Evaluated s t l :=
  ⟨by rw [h, State.setLane_lane]; exact hx, fun k hk => (h k).trans (s.setLane_other x hk)⟩

/-- What changes no lane may stand before an evaluation. -/
theorem Evaluated.after {s t u : State} {l : LaneId} (h : t.lanes = s.lanes) (k : Evaluated t u l) :
    Evaluated s u l := by
  have lane : ∀ k, t.lane k = s.lane k := fun k => by simp only [State.lane, h]
  exact ⟨lane l ▸ k.lane, fun j hj => (k.other j hj).trans (lane j)⟩

/-- A held TAKE is read at the lane alone. -/
theorem State.takeHeld_of_lanes {s t : State} {l : LaneId} (h : t.lanes = s.lanes)
    (ht : (s.lane l).takeHeld = false) : (t.lane l).takeHeld = false := by
  simpa only [State.lane, h] using ht

section
variable {s : State} {l : LaneId} (ht : (s.lane l).takeHeld = false)
include ht

theorem State.decideRefuse_evaluated (p : Progress) (r : Reason) (d : Option Nat) :
    Evaluated s (s.decideRefuse l p r d) l := by
  rw [State.decideRefuse_of ht]
  refine .of_setLane (x := { s.lane l with
    ctx := .refused (p.refused r d)
    stats := { (s.lane l).stats with refused := bump (s.lane l).stats.refused } }) (fun k => ?_)
    ⟨nofun, rfl, rfl, rfl, rfl, rfl⟩
  dsimp only
  split
  · exact State.askRefusal_lane _ _ _ k
  · rfl

theorem State.decideOffer_evaluated (o : Offer) : Evaluated s (s.decideOffer l o) l := by
  rw [State.decideOffer_of ht]
  exact .of_setLane (fun _ => rfl) ⟨nofun, rfl, rfl, rfl, rfl, rfl⟩

theorem State.decidePlace_evaluated (e : Evaluation) (o : Offer) : Evaluated s (s.decidePlace l e o) l := by
  unfold State.decidePlace
  split
  · exact State.decideOffer_evaluated ht o
  · rename_i b _
    obtain ⟨lanes, -, -⟩ := s.claimPlace_keeps b l
    split
    · rename_i hc
      rw [hc] at lanes
      exact .after lanes (State.decideOffer_evaluated (State.takeHeld_of_lanes lanes ht) o)
    · rename_i t r hc
      rw [hc] at lanes
      have lanes : ((t.releaseSlot).releaseUse e.token.id).lanes = s.lanes := lanes
      exact .after lanes (State.decideRefuse_evaluated (State.takeHeld_of_lanes lanes ht) _ _ _)

theorem State.decideClaims_evaluated (e : Evaluation) (flags : DenyFlags) :
    Evaluated s (s.decideClaims l e flags) l := by
  unfold State.decideClaims
  split
  · exact State.decideRefuse_evaluated ht _ _ _
  · rename_i charge cls _
    split
    · exact State.decideRefuse_evaluated ht _ _ _
    · rename_i taps _
      split
      · refine .after (t := (s.withTaps taps).releaseUse e.token.id) rfl (State.decideRefuse_evaluated ?_ _ _ _)
        exact ht
      · rename_i g _
        refine .after (t := (s.withTaps taps).withLog g) rfl (State.decidePlace_evaluated ?_ _ _)
        exact ht

theorem State.applyPolicy_evaluated (e : Evaluation) : Evaluated s (s.applyPolicy l e) l := by
  unfold State.applyPolicy
  split
  · exact State.decideClaims_evaluated ht e _
  · exact State.decideRefuse_evaluated ht _ _ _

omit ht in
theorem State.queueLookup_evaluated (e : Evaluation) : Evaluated s (s.queueLookup l e) l :=
  .of_setLane (fun _ => rfl) ⟨nofun, rfl, rfl, rfl, rfl, rfl⟩

theorem State.startEvaluation_evaluated (token : TokenRecord) : Evaluated s (s.startEvaluation l token) l := by
  unfold State.startEvaluation
  split
  · exact State.decideRefuse_evaluated ht _ _ _
  · unfold State.denyCheck
    split
    · exact State.applyPolicy_evaluated ht _
    · exact State.decideClaims_evaluated ht _ _
    · exact State.queueLookup_evaluated _

end

theorem State.queueLookup_quiet (s : State) (l : LaneId) (e : Evaluation) : Quiet s (s.queueLookup l e) :=
  ((s.withQueueField_quiet _).trans (State.arbitrate_quiet _)).trans
    (State.updLane_quiet _ l _ fun _ => ⟨rfl, rfl, rfl⟩)

theorem State.startEvaluation_quiet (s : State) (l : LaneId) (token : TokenRecord) :
    Quiet s (s.startEvaluation l token) := by
  unfold State.startEvaluation
  split
  · exact s.decideRefuse_quiet l _ _ _
  · unfold State.denyCheck
    split
    · exact s.applyPolicy_quiet l _
    · exact s.decideClaims_quiet l _ _
    · exact s.queueLookup_quiet l _

/-! ## The TAP -/

/-- A TAP counted and answered STARTED (R44). -/
def Lane.tapped (x : Lane) : Lane :=
  { x with stats := { x.stats with taps := bump x.stats.taps }, reply := some .tapStarted }

/-- A taken TAP: counted and answered, its lane's context cleared, and an evaluation started. -/
theorem State.takeTap_eq (s : State) (l : LaneId) (token : TokenRecord) :
    s.takeTap l token = ((s.setLane l (s.lane l).tapped).clearForTap l).startEvaluation l token := rfl

theorem exec_tap {s : State} {l : LaneId} {fields : List Byte} {token : TokenRecord} (hr : s.keep.run = .running)
    (ht : (s.lane l).takeHeld = false) (hd : decodeToken fields = some token) :
    exec (.tap l fields) s = .next (s.takeTap l token) := by
  refine congrArg _ ((State.onLane_of hr ht _).trans ?_)
  simp only [hd]

theorem State.takeTap_quiet (s : State) (l : LaneId) (token : TokenRecord) : Quiet s (s.takeTap l token) :=
  ((s.updLane_quiet l Lane.tapped fun _ => ⟨rfl, rfl, rfl⟩).trans (State.clearForTap_quiet _ l)).trans
    (State.startEvaluation_quiet _ l token)

/-- At its lane a TAP fills the cleared context. -/
theorem State.takeTap_lane {s : State} {l : LaneId} (ht : (s.lane l).takeHeld = false) (token : TokenRecord) :
    (s.lane l).tapped.clearedForTap.Filled ((s.takeTap l token).lane l) := by
  have cleared : ((s.setLane l (s.lane l).tapped).clearForTap l).lane l = (s.lane l).tapped.clearedForTap := by
    rw [State.clearForTap_lane, State.setLane_lane]
  obtain ⟨held, -⟩ := (s.lane l).tapped.clearedForTap_keeps
  rw [State.takeTap_eq, ← cleared]
  exact (State.startEvaluation_evaluated (cleared ▸ held.trans ht) token).lane

theorem State.takeTap_other {s : State} {k l : LaneId} (ht : (s.lane l).takeHeld = false) (token : TokenRecord)
    (h : k ≠ l) : (s.takeTap l token).lane k = s.lane k := by
  have held : (((s.setLane l (s.lane l).tapped).clearForTap l).lane l).takeHeld = false := by
    rw [State.clearForTap_lane, State.setLane_lane]
    exact (s.lane l).tapped.clearedForTap_keeps.1.trans ht
  exact ((State.startEvaluation_evaluated held token).other k h).trans
    ((State.clearForTap_other _ h).trans (s.setLane_other _ h))

/-- Settles O20: the context is cleared and filled again; everything else at the lane is what the TAP counted. -/
theorem tapStartsAndEndsWhatTheContextHeld : Obligations.TapStartsAndEndsWhatTheContextHeld := by
  unfold Obligations.TapStartsAndEndsWhatTheContextHeld
  intro s l fields token hr ht hd
  have filled := State.takeTap_lane ht token
  have quiet := s.takeTap_quiet l token
  obtain ⟨-, entries, reply, taps⟩ := (s.lane l).tapped.clearedForTap_keeps
  exact ⟨_, exec_tap hr ht hd, filled.reply.trans reply, filled.taps.trans taps,
    filled.superseded.trans (s.lane l).tapped.clearedForTap_superseded,
    filled.dropped.trans (s.lane l).tapped.clearedForTap_dropped, filled.ctx, filled.entries.trans entries,
    quiet.role l, quiet.settings l, quiet.cond l, fun _ => State.takeTap_other ht token, quiet.clock, quiet.keep,
    quiet.fare, quiet.landing⟩

end Sys2Proof.Machine
end

section
/-!
PROOF. Passage sensing: the raw line and the debounced level (R71, R72, R74), and what an accepted change to CLEAR does
under its lane's role (R73, R75 to R81, R29, R30).
-/
namespace Sys2Proof.Machine

/-! ## The line and the conditioner -/

/-- The runs in which the conditioners follow their lines (R83, R219). -/
theorem State.sensing_iff (s : State) :
    s.sensing = true ↔
      s.keep.run = .running ∨ s.keep.run = .warmRestart .record ∨ s.keep.run = .warmRestart .finish := by
  unfold State.sensing
  split
  case h_4 running record finish => simpa using ⟨running, record, finish⟩
  all_goals simp [*]

section
variable {s : State} {l : LaneId} {level : Level}

theorem exec_rawLevelChange_same (h : level = (s.lane l).cond.raw) :
    exec (.rawLevelChange l level) s = .next s :=
  congrArg _ (if_pos h)

theorem exec_rawLevelChange_sensed (h : level ≠ (s.lane l).cond.raw) (hs : s.sensing = true) :
    exec (.rawLevelChange l level) s = .next (s.setLane l { s.lane l with
      cond := (s.lane l).cond.rawChange level s.now (s.lane l).settings.debounce }) :=
  congrArg _ ((if_neg h).trans (if_pos hs))

theorem exec_rawLevelChange_unsensed (h : level ≠ (s.lane l).cond.raw) (hs : ¬ s.sensing = true) :
    exec (.rawLevelChange l level) s = .next (s.setLane l { s.lane l with
      cond := { (s.lane l).cond with raw := level } }) :=
  congrArg _ ((if_neg h).trans (if_neg hs))

end

section
variable {s : State} {l : LaneId} {deadline : Nat} (hr : s.keep.run = .running)
include hr

theorem exec_blockedDeadline (hd : (s.lane l).cond.blockedDeadline = some deadline) (hle : deadline ≤ s.now) :
    exec (.blockedDeadline l) s = .next (s.setLane l { s.lane l with
      cond := { (s.lane l).cond with blocked := true, blockedDeadline := none } }).latchLaneFault :=
  congrArg _ ((State.whenRunning_of hr _).trans (if_pos (State.reached_of hd hle)))

variable (hd : (s.lane l).cond.debounceDeadline = some deadline) (hle : deadline ≤ s.now)
include hd hle

/-- The debounced level becomes OCCUPIED (R72). -/
theorem exec_debounceDeadline_occupied (hraw : (s.lane l).cond.raw = .occupied) :
    exec (.debounceDeadline l) s = .next (s.setLane l { s.lane l with
      cond := (s.lane l).cond.acceptOccupied s.now }) := by
  refine congrArg _ ((State.whenRunning_of hr _).trans ((if_pos (State.reached_of hd hle)).trans ?_))
  rw [hraw]
  rfl

/-- The debounced level becomes CLEAR: a passage, unless BLOCKED was set (R73, R75). -/
theorem exec_debounceDeadline_clear (hraw : (s.lane l).cond.raw = .clear) :
    exec (.debounceDeadline l) s = .next (if (s.lane l).cond.blocked then (s.sensorClear l).latchLaneFault
      else (s.sensorClear l).takePassage l) := by
  refine congrArg _ ((State.whenRunning_of hr _).trans ((if_pos (State.reached_of hd hle)).trans ?_))
  rw [hraw]
  rfl

theorem exec_debounceDeadline_passage (hraw : (s.lane l).cond.raw = .clear) (hb : (s.lane l).cond.blocked = false) :
    exec (.debounceDeadline l) s = .next ((s.sensorClear l).takePassage l) := by
  simp only [exec_debounceDeadline_clear hr hd hle hraw, hb, Bool.false_eq_true, if_false]

end

/-- Settles O43: the line's changes by whether its conditioner follows it, then the two deadlines. -/
theorem passageLineIsDebounced : Obligations.PassageLineIsDebounced := by
  unfold Obligations.PassageLineIsDebounced
  rintro s l x rfl
  refine ⟨fun level hne => ⟨fun hs => ?sensed, fun h1 h2 h3 => ?unsensed⟩, exec_rawLevelChange_same rfl,
    fun deadline hr hd hle hraw => exec_debounceDeadline_occupied hr hd hle hraw,
    fun deadline hr hd hle => exec_blockedDeadline hr hd hle⟩
  case sensed => exact exec_rawLevelChange_sensed hne (s.sensing_iff.mpr hs)
  case unsensed =>
    refine exec_rawLevelChange_unsensed hne fun hs => ?_
    obtain h | h | h := s.sensing_iff.mp hs
    · exact h1 h
    · exact h2 h
    · exact h3 h

/-! ## A passage at a berth -/

@[simp] theorem State.sensorClear_role (s : State) (l : LaneId) :
    ((s.sensorClear l).lane l).role = (s.lane l).role := by
  simp [State.sensorClear]

@[simp] theorem State.sensorClear_entries (s : State) (l : LaneId) :
    ((s.sensorClear l).lane l).entries = (s.lane l).entries := by
  simp [State.sensorClear]

@[simp] theorem State.sensorClear_settings (s : State) (l : LaneId) :
    ((s.sensorClear l).lane l).settings = (s.lane l).settings := by
  simp [State.sensorClear]

@[simp] theorem State.sensorClear_stats (s : State) (l : LaneId) :
    ((s.sensorClear l).lane l).stats = (s.lane l).stats := by
  simp [State.sensorClear]

theorem Call.alight_some {c : Call} (h : 0 < c.onBoard) :
    c.alight = Call.withOver { c with onBoard := c.onBoard - 1, alighted := bump c.alighted } := if_pos h

theorem Call.alight_none {c : Call} (h : c.onBoard = 0) :
    c.alight = Call.withOver { c with unmatched := bump c.unmatched } := if_neg (by omega)

theorem State.passAtBerth_open {s : State} {b : BerthId} {c : Call} (hc : s.call b = some c) (f : Call → Call) :
    s.passAtBerth b f = s.setCall b (some (f c)) := by
  simp only [State.passAtBerth, hc]

theorem State.passAtBerth_vacant {s : State} {b : BerthId} (hc : s.call b = none) (f : Call → Call) :
    s.passAtBerth b f = s.count fun x => { x with strayPassages := bump x.strayPassages } := by
  simp only [State.passAtBerth, hc]
  rfl

/-! ## A passage under the lane's role -/

theorem State.takePassage_off {s : State} {l : LaneId} (h : (s.lane l).role = .off) : s.takePassage l = s := by
  simp only [State.takePassage, h]

theorem State.takePassage_alight {s : State} {l : LaneId} {b : BerthId}
    (h : ((s.lane l).role = .alightA ∧ b = .berthA) ∨ ((s.lane l).role = .alightB ∧ b = .berthB)) :
    s.takePassage l = s.passAtBerth b Call.alight := by
  obtain ⟨h, rfl⟩ | ⟨h, rfl⟩ := h <;> simp only [State.takePassage, h]

theorem State.takePassage_serving {s : State} {l : LaneId}
    (h : (s.lane l).role = .entry ∨ (s.lane l).role = .boardA ∨ (s.lane l).role = .boardB) :
    s.takePassage l = s.matchPassage l := by
  obtain h | h | h := h <;> simp only [State.takePassage, h]

/-- Settles O44, by BLOCKED, then by the role and the state of the alighting lane's berth. -/
theorem passageOffTheGatesFollowsTheRole : Obligations.PassageOffTheGatesFollowsTheRole := by
  unfold Obligations.PassageOffTheGatesFollowsTheRole
  intro s l deadline hr hd hle hraw
  refine ⟨fun hb => ?blocked, fun hb => ?passage⟩
  case blocked => simp only [exec_debounceDeadline_clear hr hd hle hraw, hb, if_true]
  case passage =>
    rw [exec_debounceDeadline_passage hr hd hle hraw hb]
    refine ⟨fun hrole => ?off, fun b hrole => ?alighting⟩
    case off => rw [State.takePassage_off (by simpa using hrole)]
    case alighting =>
      have call : (s.sensorClear l).call b = s.call b := rfl
      rw [State.takePassage_alight (b := b) (by simpa using hrole)]
      refine ⟨fun hc => ?_, fun c hc => ⟨fun h0 => ?_, fun h0 => ?_⟩⟩
      · rw [State.passAtBerth_vacant (call.trans hc)]
      · rw [State.passAtBerth_open (call.trans hc), Call.alight_some h0]
      · rw [State.passAtBerth_open (call.trans hc), Call.alight_none h0]

/-! ## A passage matched against the list -/

theorem Entry.awaitsPassage_of {e : Entry} (h : e.phase = .awaitPassage) : e.awaitsPassage = true := decide_eq_true h

theorem Entry.not_awaitsPassage {e : Entry} (h : e.phase = .awaitWrite) : e.awaitsPassage = false := by
  simp [Entry.awaitsPassage, h]

/-- Older entries that await their write are passed over (R77). -/
theorem State.matchPassage_commit {s : State} {l : LaneId} {older younger : List Entry} {e : Entry}
    (hes : (s.lane l).entries = older ++ e :: younger) (ho : ∀ x ∈ older, x.phase = .awaitWrite)
    (he : e.phase = .awaitPassage) : s.matchPassage l = s.commitEntry l e (older ++ younger) := by
  have older_not : ∀ x ∈ older, x.awaitsPassage = false := fun x hx => Entry.not_awaitsPassage (ho x hx)
  simp only [State.matchPassage, hes, entries_find older_not (Entry.awaitsPassage_of he),
    entries_erase older_not (Entry.awaitsPassage_of he)]

theorem State.matchPassage_tailgate {s : State} {l : LaneId} (h : ∀ x ∈ (s.lane l).entries, x.phase = .awaitWrite) :
    s.matchPassage l = s.tailgate l := by
  have none_awaits : (s.lane l).entries.find? Entry.awaitsPassage = none :=
    List.find?_eq_none.mpr fun x hx => by simp [Entry.not_awaitsPassage (h x hx)]
  simp only [State.matchPassage, none_awaits]

/-- What a commit hands the recent-tap table while the calendar is set (R79). -/
theorem Entry.tableAdmission_of_set (e : Entry) (l : LaneId) (time : CalTime) (homeLine : Nat) :
    e.tableAdmission l (some time) homeLine
      = { time := time, lane := l, berth := e.berth, line := e.line.getD homeLine,
          roleClass := if e.berth = none then .entry else .board } := by
  cases h : e.berth <;> simp [Entry.tableAdmission, commitTime, h]

/-- A commit: its lane, the record into the entry's slot, the use, the message to the berth (R78). -/
theorem State.commitEntry_eq (s : State) (l : LaneId) (e : Entry) (rest : List Entry) :
    s.commitEntry l e rest
      = (((s.setLane l { s.lane l with
            entries := rest
            stats := { (s.lane l).stats with committed := bump (s.lane l).stats.committed } }).withLog
          (s.log.appendReserved (e.commitRecord l s.clock.calendar))).withTaps
          (tapCommit s.taps e.tokenId (e.tableAdmission l s.clock.calendar (s.lane l).settings.homeLine)
            s.now)).sendHolding e.berth l .commit := rfl

/-- A commit by a passage: the sensor and the list of the lane change together. -/
theorem State.commitEntry_sensorClear (s : State) (l : LaneId) (e : Entry) (rest : List Entry) :
    (s.sensorClear l).commitEntry l e rest
      = (((s.setLane l { (s.sensorClear l).lane l with
            entries := rest
            stats := { (s.lane l).stats with committed := bump (s.lane l).stats.committed } }).withLog
          (s.log.appendReserved (e.commitRecord l s.clock.calendar))).withTaps
          (tapCommit s.taps e.tokenId (e.tableAdmission l s.clock.calendar (s.lane l).settings.homeLine)
            s.now)).sendHolding e.berth l .commit := by
  have lanes (x : Lane) : (s.sensorClear l).setLane l x = s.setLane l x := s.setLane_setLane l _ x
  rw [State.commitEntry_eq, lanes, s.sensorClear_stats, s.sensorClear_settings]
  rfl

/-! ## A tailgate -/

/-- A tailgate before it reaches its berth: the TAILGATE record and the lane's count (R80). -/
def State.tailgated (s : State) (l : LaneId) : State :=
  (s.appendUnreserved (.tailgate s.clock.calendar l (s.lane l).role.boards)).countLane l fun x =>
    { x with tailgates := bump x.tailgates }

theorem State.tailgated_call (s : State) (l : LaneId) (b : BerthId) : (s.tailgated l).call b = s.call b := by
  unfold State.tailgated State.appendUnreserved
  split <;> rfl

theorem State.tailgate_entry {s : State} {l : LaneId} (h : (s.lane l).role.boards = none) :
    s.tailgate l = s.tailgated l := by
  simp only [State.tailgate, State.tailgated, h]

theorem State.tailgate_boarding {s : State} {l : LaneId} {b : BerthId} (h : (s.lane l).role.boards = some b) :
    s.tailgate l = (s.tailgated l).passAtBerth b Call.tailgate := by
  simp only [State.tailgate, State.tailgated, h]

theorem State.tailgated_eq (s : State) (l : LaneId) :
    s.tailgated l = (s.appendUnreserved (.tailgate s.clock.calendar l (s.lane l).role.boards)).setLane l
      { s.lane l with stats := { (s.lane l).stats with tailgates := bump (s.lane l).stats.tailgates } } := by
  unfold State.tailgated State.countLane State.updLane
  rw [State.appendUnreserved_lane]

/-- A tailgate's record and count, from the state before the sensor cleared. -/
theorem State.tailgated_sensorClear (s : State) (l : LaneId) :
    (s.sensorClear l).tailgated l
      = ((s.sensorClear l).appendUnreserved (.tailgate s.clock.calendar l (s.lane l).role.boards)).setLane l
          { (s.sensorClear l).lane l with
            stats := { (s.lane l).stats with tailgates := bump (s.lane l).stats.tailgates } } := by
  rw [State.tailgated_eq, s.sensorClear_stats, s.sensorClear_role]
  rfl

/-- Settles O45, by whether an entry awaits its passage; a tailgate then by the role and the state of the berth. -/
theorem passageCommitsTheOldestOrIsATailgate : Obligations.PassageCommitsTheOldestOrIsATailgate := by
  unfold Obligations.PassageCommitsTheOldestOrIsATailgate
  intro s l deadline hr hd hle hraw hb hrole
  rw [exec_debounceDeadline_passage hr hd hle hraw hb, State.takePassage_serving (by simpa using hrole)]
  refine ⟨?commit, fun hwrite => ?tailgate⟩
  case commit =>
    rintro older e younger time hes ho he hcal content last y rfl rfl rfl
    rw [State.matchPassage_commit (by simpa using hes) ho he, State.commitEntry_sensorClear, hcal,
      Entry.tableAdmission_of_set]
    rfl
  case tailgate =>
    rintro t rfl
    rw [State.matchPassage_tailgate (by simpa using hwrite), ← State.tailgated_sensorClear]
    refine ⟨fun hentry => ?_, fun b hboards => ?_⟩
    · rw [State.tailgate_entry (by simp [hentry, Role.boards])]
    · have call : ((s.sensorClear l).tailgated l).call b = s.call b := State.tailgated_call _ l b
      rw [State.tailgate_boarding (by simpa using hboards)]
      refine ⟨fun hc => ?_, fun c hc => ?_⟩
      · rw [State.passAtBerth_vacant (call.trans hc)]
      · rw [State.passAtBerth_open (call.trans hc)]
        rfl

end Sys2Proof.Machine
end

section
/-!
PROOF. Times and products: the elapsed time and what lies within an interval (R90, R99, R100, R132), and how a product
code resolves (R93, R95 to R97).
-/
namespace Sys2Proof.Machine

/-! ## The elapsed time -/

/-- From an earlier time: the days between in seconds, and the seconds of day. -/
theorem elapsed_of_before {recorded present : CalTime} (hr : recorded.second ≤ 86399)
    (h : recorded.day < present.day ∨ (recorded.day = present.day ∧ recorded.second < present.second)) :
    elapsed recorded present + recorded.second = (present.day - recorded.day) * 86400 + present.second := by
  unfold elapsed CalTime.total
  omega

/-- From the present or a later time: nothing. -/
theorem elapsed_of_not_before {recorded present : CalTime} (hp : present.second ≤ 86399)
    (h : ¬ (recorded.day < present.day ∨ (recorded.day = present.day ∧ recorded.second < present.second))) :
    elapsed recorded present = 0 := by
  unfold elapsed CalTime.total
  omega

/-! ## Within an interval -/

theorem recentAdmission_none {e : TapEntry} (h : e.last = none) (rc : RoleClass) (now : CalTime) (passback : Nat) :
    recentAdmission e rc now passback = false := by
  simp only [recentAdmission, h]

theorem recentAdmission_iff {e : TapEntry} {a : TableAdmission} (h : e.last = some a) (rc : RoleClass) (now : CalTime)
    (passback : Nat) :
    recentAdmission e rc now passback = true ↔ a.roleClass = rc ∧ elapsed a.time now < passback := by
  simp [recentAdmission, h]

/-- No time is within an interval of 0. -/
theorem recentAdmission_zero (e : TapEntry) (rc : RoleClass) (now : CalTime) : recentAdmission e rc now 0 = false := by
  cases h : e.last with
  | none => exact recentAdmission_none h rc now 0
  | some a => exact Bool.eq_false_iff.mpr fun recent => Nat.not_lt_zero _ ((recentAdmission_iff h rc now 0).mp recent).2

theorem linesDiffer_iff (before current : Nat) :
    linesDiffer before current = true
      ↔ (1 ≤ before ∧ before ≤ 15) ∧ (1 ≤ current ∧ current ≤ 15) ∧ before ≠ current := by
  simp only [linesDiffer, Bool.and_eq_true, within_iff, decide_eq_true_iff, and_assoc]

/-- A transfer window that holds a time is not 0, so the test of R99 asks for the lines and the time alone. -/
theorem transferFrom_iff (e : Evaluation) (line : Nat) (time : CalTime) :
    transferFrom e line time = true
      ↔ linesDiffer line e.line = true ∧ elapsed time e.time < e.product.window * 60 := by
  simp only [transferFrom, Bool.and_eq_true, decide_eq_true_iff]
  exact ⟨fun ⟨⟨_, lines⟩, recent⟩ => ⟨lines, recent⟩, fun ⟨lines, recent⟩ => ⟨⟨by omega, lines⟩, recent⟩⟩

/-- Settles O16: the elapsed time by the order of the two times, then the two tests that compare it. -/
theorem elapsedTimeIsZeroForTheFuture : Obligations.ElapsedTimeIsZeroForTheFuture := by
  unfold Obligations.ElapsedTimeIsZeroForTheFuture
  refine ⟨fun recorded present hr hp => ⟨elapsed_of_before hr, elapsed_of_not_before hp⟩,
    fun e rc now passback => ⟨recentAdmission_zero e rc now, fun h => recentAdmission_none h rc now passback,
      fun a h => recentAdmission_iff h rc now passback⟩,
    fun e line time => ⟨fun h => ?closed, ?transfer⟩⟩
  case closed => exact Bool.eq_false_iff.mpr fun ht => by simpa [h] using ((transferFrom_iff e line time).mp ht).2
  case transfer => simp only [transferFrom_iff, linesDiffer_iff, and_assoc]

/-! ## A REDIRECT's band -/

theorem inBand_within_day {bandStart bandEnd : Nat} (h : bandStart ≤ bandEnd) (second : Nat) :
    inBand bandStart bandEnd second = true ↔ bandStart ≤ second ∧ second ≤ bandEnd := by
  simp [inBand, h]

theorem inBand_over_midnight {bandStart bandEnd : Nat} (h : bandEnd < bandStart) (second : Nat) :
    inBand bandStart bandEnd second = true ↔ bandStart ≤ second ∨ second ≤ bandEnd := by
  simp [inBand, h.not_ge]

/-! ## Resolution -/

section
variable {t : List FareEntry} {line second code page index : Nat}

theorem resolveFrom_unselected (h : selectEntry line code = none) (reads : Nat) :
    resolveFrom t line second (reads + 1) code = .error .unknownProduct := by
  simp only [resolveFrom, h]

variable (hs : selectEntry line code = some (page, index))
include hs

theorem resolveFrom_empty (he : fareAt t page index = .empty) (reads : Nat) :
    resolveFrom t line second (reads + 1) code = .error .unknownProduct := by
  simp only [resolveFrom, hs, he]

theorem resolveFrom_terminal {kind : TerminalKind} {mask : RoleMask} {window : Nat}
    (he : fareAt t page index = .terminal kind mask window) (reads : Nat) :
    resolveFrom t line second (reads + 1) code = .ok (page, index, kind, mask, window) := by
  simp only [resolveFrom, hs, he]

theorem resolveFrom_redirect {bandStart bandEnd inCode outCode : Nat}
    (he : fareAt t page index = .redirect bandStart bandEnd inCode outCode) (reads : Nat) :
    resolveFrom t line second (reads + 1) code
      = resolveFrom t line second reads (if inBand bandStart bandEnd second then inCode else outCode) := by
  simp only [resolveFrom, hs, he]

/-- A REDIRECT to its own code uses up the reads, however many are left (R96). -/
theorem resolveFrom_loop {bandStart bandEnd : Nat} (he : fareAt t page index = .redirect bandStart bandEnd code code)
    (reads : Nat) : resolveFrom t line second reads code = .error .tableLoop := by
  induction reads with
  | zero => rfl
  | succ reads ih => rw [resolveFrom_redirect hs he, ite_self, ih]

end

/-! ## The medium and the role class -/

theorem kindTakes_eq_false (kind : TerminalKind) (m : Medium) :
    kindTakes kind m = false
      ↔ (m = .code ∧ (kind = .rides ∨ ∃ amount, kind = .value amount)) ∨ (m = .card ∧ kind = .ticket) := by
  cases kind <;> cases m <;> simp [kindTakes]

theorem kindTakes_eq_true (kind : TerminalKind) (m : Medium) :
    kindTakes kind m = true
      ↔ kind = .pass ∨ (m = .card ∧ (kind = .rides ∨ ∃ amount, kind = .value amount)) ∨ (m = .code ∧ kind = .ticket) := by
  cases kind <;> cases m <;> simp [kindTakes]

theorem RoleMask.has_eq_iff (mask : RoleMask) (rc : RoleClass) (held : Bool) :
    mask.has rc = held ↔ (rc = .entry ∧ mask.entry = held) ∨ (rc = .board ∧ mask.board = held) := by
  cases rc <;> simp [RoleMask.has]

section
variable {t : List FareEntry} {token : TokenRecord} {line second : Nat}

theorem resolveProduct_unresolved {r : Reason} (h : resolveFrom t line second 5 token.productCode = .error r)
    (rc : RoleClass) : resolveProduct t token rc line second = .error r := by
  simp only [resolveProduct, h]

/-- A terminal entry is judged for the medium, then for the role class (R97). -/
theorem resolveProduct_resolved {page index window : Nat} {kind : TerminalKind} {mask : RoleMask}
    (h : resolveFrom t line second 5 token.productCode = .ok (page, index, kind, mask, window)) (rc : RoleClass) :
    resolveProduct t token rc line second
      = if kindTakes kind token.medium = false then .error .wrongMedium
        else if mask.has rc = false then .error .notValidHere
        else .ok { page := page, index := index, kind := kind, window := window } := by
  simp only [resolveProduct, h, Bool.not_eq_true']

end

/-- Settles O17: the band, the loop, the reads by the entry they find, and the judgement of a terminal entry. -/
theorem redirectFollowsItsBand : Obligations.RedirectFollowsItsBand := by
  unfold Obligations.RedirectFollowsItsBand
  refine ⟨fun _ _ second => ⟨fun h => inBand_within_day h second, fun h => inBand_over_midnight h second,
      fun _ _ reads _ _ _ _ _ hs he => resolveFrom_redirect hs he reads⟩,
    fun _ _ rc _ _ _ _ _ _ hs he => resolveProduct_unresolved (resolveFrom_loop hs he 5) rc,
    fun _ _ _ reads _ => ⟨rfl, rfl, fun h => resolveFrom_unselected h reads, fun _ _ hs =>
      ⟨fun he => resolveFrom_empty hs he reads, fun _ _ _ he => resolveFrom_terminal hs he reads⟩⟩,
    fun t token rc line second => ⟨fun r h => resolveProduct_unresolved h rc,
      fun page index kind mask window h => ?judged⟩⟩
  rw [resolveProduct_resolved h rc, ← kindTakes_eq_false, ← kindTakes_eq_true, ← RoleMask.has_eq_iff,
    ← RoleMask.has_eq_iff]
  exact ⟨fun hm => if_pos hm, fun hm => ⟨fun hrc => by simp only [hm, hrc, Bool.true_eq_false, if_false],
    fun hrc => by simp only [hm, hrc, Bool.true_eq_false, if_false, if_true]⟩⟩

end Sys2Proof.Machine
end

section
/-!
PROOF. The landing clock: a calendar second, SET_CLOCK and the unpinning at a change of day (R85, R86, R139, R216), and
the millisecond that a step takes on an empty queue (R84, R85, R88; logs 2, 4, 13, 14, 34).
-/
namespace Sys2Proof.Machine

/-! ## The unpinning -/

theorem TapEntry.pinBefore_iff (e : TapEntry) (day : Nat) :
    e.pinBefore day = true ↔ ∃ pin, e.pinDay = some pin ∧ pin < day := by
  cases h : e.pinDay <;> simp [TapEntry.pinBefore, h]

/-- What a change of day leaves of one entry (R139). -/
def TapEntry.unpinned (e : TapEntry) (day : Nat) : TapEntry :=
  if e.pinned && e.pinBefore day then { e with pinned := false } else e

theorem tapUnpin_eq_map (t : List TapEntry) (day : Nat) : tapUnpin t day = t.map fun e => e.unpinned day := rfl

theorem TapEntry.unpinned_past {e : TapEntry} {day : Nat} (h : ∃ pin, e.pinDay = some pin ∧ pin < day) :
    e.unpinned day = { e with pinned := false } := by
  unfold TapEntry.unpinned
  rw [(e.pinBefore_iff day).mpr h, Bool.and_true]
  split
  · rfl
  · rename_i unpinned
    rw [← Bool.eq_false_iff.mpr unpinned]

theorem TapEntry.unpinned_standing {e : TapEntry} {day : Nat} (h : ∀ pin, e.pinDay = some pin → day ≤ pin) :
    e.unpinned day = e := by
  have standing : e.pinBefore day = false := Bool.eq_false_iff.mpr fun before => by
    obtain ⟨pin, hpin, hlt⟩ := (e.pinBefore_iff day).mp before
    exact (h pin hpin).not_gt hlt
  simp [TapEntry.unpinned, standing]

/-! ## A change of day, made by a change of the clock -/

theorem State.handDay_running {s : State} (h : s.keep.run = .running) (c : Clock) (day : Nat) :
    (s.withClock c).handDay day = (s.withClock c).withTaps (tapUnpin s.taps day) := if_pos (State.running_of h)

theorem State.handDay_waits {s : State} (h : s.keep.run ≠ .running) (c : Clock) (day : Nat) :
    (s.withClock c).handDay day = (s.withClock c).withKeep { s.keep with dayChange := true } :=
  if_neg fun running => h (s.running_iff.mp running)

/-! ## A calendar second -/

theorem CalTime.next_second {t : CalTime} (h : t.second < 86399) : t.next = { day := t.day, second := t.second + 1 } :=
  (if_neg (by omega)).trans (if_pos h)

theorem CalTime.next_day {t : CalTime} (hs : t.second = 86399) (hd : t.day < 65535) :
    t.next = { day := t.day + 1, second := 0 } :=
  (if_neg (by omega)).trans (if_neg (by omega))

theorem Clock.takeSecond_last {c : Clock} {t : CalTime} (h : t.next = lastCalTime) :
    c.takeSecond t = { timeBase := c.timeBase, calendar := some lastCalTime, phase := 0, secondsDue := 0 } :=
  (if_pos h).trans (by rw [h])

theorem Clock.takeSecond_counting {c : Clock} {t : CalTime} (h : t.next ≠ lastCalTime) :
    c.takeSecond t = { timeBase := c.timeBase, calendar := some t.next, phase := c.phase,
                       secondsDue := c.secondsDue - 1 } := if_neg h

section
variable {s : State} {t : CalTime}

/-- A second that is not due, or that a calendar NOT_SET cannot take, changes nothing. -/
theorem exec_calendarSecond_idle (h : s.clock.secondsDue = 0 ∨ s.clock.calendar = none) :
    exec .calendarSecond s = .next s := by
  refine congrArg Host.Outcome.next ?_
  split
  · rename_i t ht
    have none_due : s.clock.secondsDue = 0 := h.resolve_right (by simp [ht])
    exact if_neg (by omega)
  · rfl

variable (ht : s.clock.calendar = some t) (hdue : 1 ≤ s.clock.secondsDue)
include ht hdue

theorem exec_calendarSecond_due :
    exec .calendarSecond s = .next (if t.next.day = t.day then s.withClock (s.clock.takeSecond t)
      else (s.withClock (s.clock.takeSecond t)).handDay t.next.day) := by
  refine congrArg Host.Outcome.next ?_
  simp only [ht]
  exact if_pos hdue

theorem exec_calendarSecond_same_day (h : t.next.day = t.day) :
    exec .calendarSecond s = .next (s.withClock (s.clock.takeSecond t)) := by
  rw [exec_calendarSecond_due ht hdue, if_pos h]

theorem exec_calendarSecond_new_day (hs : t.second = 86399) (hd : t.day < 65535) :
    exec .calendarSecond s = .next ((s.withClock
      { timeBase := s.now, calendar := some { day := t.day + 1, second := 0 }, phase := s.clock.phase,
        secondsDue := s.clock.secondsDue - 1 }).handDay (t.day + 1)) := by
  have next_eq := CalTime.next_day hs hd
  rw [exec_calendarSecond_due ht hdue, Clock.takeSecond_counting (by simp [next_eq, lastCalTime]), next_eq]
  exact congrArg Host.Outcome.next (if_neg (by simp))

end

/-! ## SET_CLOCK -/

/-- A transfer's collection changes nothing that an append reads or writes. -/
theorem State.collect_appendUnreserved (s : State) (c : Content) :
    s.collect.appendUnreserved c = (s.appendUnreserved c).collect := by
  have log : s.collect.log = s.log := rfl
  unfold State.appendUnreserved
  rw [log]
  split <;> rfl

theorem State.collect_handDay (s : State) (day : Nat) : s.collect.handDay day = (s.handDay day).collect := by
  have running : s.collect.running = s.running := rfl
  unfold State.handDay
  rw [running]
  split <;> rfl

/-- The clock set to a calendar time, as SET_CLOCK leaves it (R86). -/
def State.clockSet (s : State) (t : CalTime) : State :=
  s.withClock { timeBase := s.now, calendar := some t, phase := 0, secondsDue := 0 }

/-- The whole effect of a taken SET_CLOCK (R86): the clock, a change of day, the CLOCK_SET record. -/
def State.timeSet (s : State) (t : CalTime) : State :=
  (if s.clock.calendar.map (·.day) = some t.day then s.clockSet t
    else (s.clockSet t).handDay t.day).appendUnreserved (.clockSet s.clock.calendar t)

theorem State.takeSetClock_yes (s : State) {a : ClockArgs} (hd : a.day ≤ 65535) (hs : a.second ≤ 86399) :
    s.takeSetClock a = (s.timeSet { day := a.day, second := a.second }, .yes) :=
  if_pos (by simp [within, hd, hs])

theorem State.takeSetClock_no (s : State) {a : ClockArgs} (h : ¬ (a.day ≤ 65535 ∧ a.second ≤ 86399)) :
    s.takeSetClock a = (s, .no .badArgument) :=
  if_neg (by simpa [within] using h)

theorem State.collect_timeSet (s : State) (t : CalTime) : s.collect.timeSet t = (s.timeSet t).collect := by
  have clock : s.collect.clock = s.clock := rfl
  have clockSet : s.collect.clockSet t = (s.clockSet t).collect := rfl
  unfold State.timeSet
  rw [clock, clockSet, State.collect_handDay, ← apply_ite State.collect, State.collect_appendUnreserved]

theorem State.timeSet_same_day {s : State} {t u : CalTime} (hu : s.clock.calendar = some u) (h : u.day = t.day) :
    s.timeSet t = (s.clockSet t).appendUnreserved (.clockSet s.clock.calendar t) := by
  unfold State.timeSet
  rw [if_pos (by simp [hu, h])]

theorem State.timeSet_new_day {s : State} {t : CalTime} (hr : s.keep.run = .running)
    (h : ∀ u, s.clock.calendar = some u → u.day ≠ t.day) :
    s.timeSet t = ((s.clockSet t).withTaps (tapUnpin s.taps t.day)).appendUnreserved
      (.clockSet s.clock.calendar t) := by
  unfold State.timeSet
  rw [if_neg (by simpa using h), State.clockSet, State.handDay_running hr]

theorem exec_setClock {s : State} (hr : s.keep.run = .running) {a : ClockArgs} (hd : a.day ≤ 65535)
    (hs : a.second ≤ 86399) :
    exec (.setClock (.fit a)) s
      = .next ((s.timeSet { day := a.day, second := a.second }).answered (.ok .setClock .nothing)) :=
  congrArg Host.Outcome.next (State.onStation_changed hr .yes
    ((s.collect.takeSetClock_yes hd hs).trans (by rw [s.collect_timeSet])) fun _ => rfl)

theorem exec_setClock_refused {s : State} (hr : s.keep.run = .running) {a : ClockArgs}
    (h : ¬ (a.day ≤ 65535 ∧ a.second ≤ 86399)) :
    exec (.setClock (.fit a)) s = .next (s.answered (.refused .setClock .badArgument .nothing)) :=
  congrArg Host.Outcome.next (State.onStation_answered hr (.no .badArgument) (s.collect.takeSetClock_no h))

/-- Settles O47: the unpinning entry by entry, a calendar second by the time it leads to, SET_CLOCK by its day. -/
theorem calendarSecondsAndSetClock : Obligations.CalendarSecondsAndSetClock := by
  unfold Obligations.CalendarSecondsAndSetClock
  refine ⟨fun taps day => ⟨by simp [tapUnpin], fun i e he => ?entry⟩, fun s => ⟨fun t ht hdue => ⟨fun h => ?counting,
    fun hs hd => ?last, fun hs hd => ?rollover⟩, exec_calendarSecond_idle, fun hr a => ⟨fun hd hs => ?set,
    exec_setClock_refused hr⟩⟩⟩
  case entry =>
    rw [tapUnpin_eq_map, List.getElem?_map, he]
    exact ⟨fun h => congrArg some (TapEntry.unpinned_past h), fun h => congrArg some (TapEntry.unpinned_standing h)⟩
  case counting =>
    have next_eq := t.next_second (by omega)
    have more : t.next ≠ lastCalTime := fun last => by
      rw [next_eq, lastCalTime, CalTime.mk.injEq] at last
      omega
    rw [exec_calendarSecond_same_day ht hdue (by rw [next_eq]), Clock.takeSecond_counting more, next_eq]
    rfl
  case last =>
    have last : t.next = lastCalTime := by rw [CalTime.next_second (by omega), hs, hd]; rfl
    rw [exec_calendarSecond_same_day ht hdue (by rw [last, hd]; rfl), Clock.takeSecond_last last]
    rfl
  case rollover =>
    rintro u rfl
    rw [exec_calendarSecond_new_day ht hdue hs hd]
    exact ⟨fun hr => by rw [State.handDay_running hr], fun hr => by rw [State.handDay_waits hr]⟩
  case set =>
    rintro u rfl
    rw [exec_setClock hr hd hs]
    exact ⟨fun ⟨t, ht, hday⟩ => by rw [State.timeSet_same_day ht hday, State.clockSet],
      fun h => by rw [State.timeSet_new_day hr h, State.clockSet]⟩

/-! ## One millisecond -/

section
variable {c : Clock} (hb : c.timeBase + 1 < 2 ^ 48)
include hb

theorem Clock.tick_within_second {d : CalTime} (hc : c.calendar = some d) (hl : d ≠ lastCalTime) (hp : c.phase < 999) :
    c.tick = { timeBase := c.timeBase + 1, calendar := some d, phase := c.phase + 1, secondsDue := c.secondsDue } := by
  simp only [Clock.tick, nextTimeBase, nextPhase, nextSecondsDue, hb, hc, hl, hp, if_true, if_false]

theorem Clock.tick_second_due {d : CalTime} (hc : c.calendar = some d) (hl : d ≠ lastCalTime) (hp : 999 ≤ c.phase) :
    c.tick = { timeBase := c.timeBase + 1, calendar := some d, phase := 0, secondsDue := c.secondsDue + 1 } := by
  simp only [Clock.tick, nextTimeBase, nextPhase, nextSecondsDue, hb, hc, hl, hp.not_gt, if_true, if_false]

theorem Clock.tick_stopped (hc : c.calendar = some lastCalTime) :
    c.tick = { timeBase := c.timeBase + 1, calendar := some lastCalTime, phase := 0, secondsDue := c.secondsDue } := by
  simp only [Clock.tick, nextTimeBase, nextPhase, nextSecondsDue, hb, hc, if_true]

theorem Clock.tick_not_set (hc : c.calendar = none) :
    c.tick = { timeBase := c.timeBase + 1, calendar := none, phase := 0, secondsDue := 0 } := by
  simp only [Clock.tick, nextTimeBase, nextPhase, nextSecondsDue, hb, hc, if_true]

end

theorem State.askedThen_nil (s : State) : s.askedThen [] = s.takeAsked := by
  unfold State.askedThen State.takeAsked
  rw [List.append_nil]

/-! ## The step on an empty queue -/

theorem step_idle {s : State} (h : s.pending = []) : step s = .next s.tick := by
  simp only [step, h]

section
variable {s : State}

theorem State.tick_running (h : s.keep.run = .running) : s.tick = s.passTime.takeAsked := by
  simp only [State.tick, h]

theorem State.tick_held {begun : ResetCause} (h : s.keep.run = .held begun) : s.tick = s.passTime := by
  simp only [State.tick, h]

theorem State.tick_warmRestart {stage : WarmStage} (h : s.keep.run = .warmRestart stage) :
    s.tick = s.passTime.warmStep stage := by
  simp only [State.tick, h]

theorem State.tick_flashReset {waited : Nat} (h : s.keep.run = .coldStart (.flashReset waited)) :
    s.tick = s.withKeep { s.keep with run := .coldStart (.flashReset (waited + 1)) } := by
  simp only [State.tick, h]

/-- Past the wait for the flash a cold start stands until its next event (R220, log 13). -/
theorem State.tick_reading {stage : ColdStage} (h : s.keep.run = .coldStart stage)
    (hs : ∀ waited, stage ≠ .flashReset waited) : s.tick = s := by
  cases stage with
  | flashReset waited => exact absurd rfl (hs waited)
  | imageHeader | imageContent | bankHeaderA | bankHeaderB => simp only [State.tick, h]

end

/-- Settles O2: the clock by its calendar and phase, then the tick by what the part is in. -/
theorem emptyQueueStepIsOneMillisecond : Obligations.EmptyQueueStepIsOneMillisecond := by
  unfold Obligations.EmptyQueueStepIsOneMillisecond
  intro s hq
  rw [step_idle hq]
  refine ⟨fun hb u hu => ?ticking, fun _ h => congrArg _ (State.tick_flashReset h),
    fun _ h hs => congrArg _ (State.tick_reading h hs)⟩
  have passed : u = s.passTime := by
    unfold State.passTime
    obtain ⟨d, hc, hl, hp, rfl⟩ | ⟨d, hc, hl, hp, rfl⟩ | ⟨hc, rfl⟩ | ⟨hc, rfl⟩ := hu
    · rw [Clock.tick_within_second hb hc hl hp]; rfl
    · rw [Clock.tick_second_due hb hc hl hp]; rfl
    · rw [Clock.tick_stopped hb hc]; rfl
    · rw [Clock.tick_not_set hb hc]; rfl
  subst passed
  refine ⟨fun hr => ?running, fun _ h => congrArg _ (State.tick_held h),
    fun _ h => congrArg _ (State.tick_warmRestart h)⟩
  rw [State.tick_running hr]
  exact ⟨congrArg _ (State.askedThen_nil _).symm, fun h => congrArg _ (State.takeAsked_none (s := s.passTime) h)⟩

end Sys2Proof.Machine
end

section
/-!
PROOF. The instant checks of a TAP, 1 to 7 (R109 to R114): each check's answer, and the TAP that one of them refuses.
-/
namespace Sys2Proof.Machine

/-! ## The lane's list, the days and the recent-tap table -/

theorem laneBusy_iff (es : List Entry) :
    laneBusy es = true ↔ 2 ≤ es.length ∨ ∃ e ∈ es, e.phase = .awaitWrite := by
  simp [laneBusy]

/-- A list with room: at most one entry, and it awaits its passage (R110). -/
theorem laneBusy_eq_false {es : List Entry} (hn : es.length ≤ 1) (hp : ∀ e ∈ es, e.phase = .awaitPassage) :
    laneBusy es = false := by
  rw [← Bool.not_eq_true, laneBusy_iff]
  rintro (h2 | ⟨e, he, hw⟩)
  · omega
  · rw [hp e he] at hw
    cases hw

theorem judgeDays_early {token : TokenRecord} {day : Nat} (h : day < token.validFrom) :
    judgeDays token day = some .notYetValid := by
  simp only [judgeDays, h, if_true]

theorem judgeDays_late {token : TokenRecord} {day : Nat} (h : token.validFrom ≤ day) (hu : token.validUntil < day) :
    judgeDays token day = some .expired := by
  simp only [judgeDays, h.not_gt, hu, if_false, if_true]

theorem judgeDays_valid {token : TokenRecord} {day : Nat} (h : token.validFrom ≤ day) (hu : day ≤ token.validUntil) :
    judgeDays token day = none := by
  simp only [judgeDays, h.not_gt, hu.not_gt, if_false]

/-- A medium that is no CODE is a CARD. -/
theorem Medium.card_or {m : Medium} {p : Prop} (h : m = .card ∨ p) (hc : m = .code) : p := by
  rcases h with h | h
  · rw [h] at hc
    cases hc
  · exact h

section
variable {taps : List TapEntry} {token : TokenRecord} (rc : RoleClass) (now : CalTime) (passback : Nat)

/-- A token the table does not know: refused only where it allows no use (R132). -/
theorem tapJudge_unknown (h : tapFind taps token.id = none) :
    tapJudge taps token rc now passback
      = if token.medium = .code ∧ token.usesAllowed = 0 then some .spent else none := by
  simp only [tapJudge, h]

/-- A token with an entry: refused for its held use, then for a recent admission, then for its uses (R132). -/
theorem tapJudge_known {x : TapEntry} (h : tapFind taps token.id = some x) :
    tapJudge taps token rc now passback
      = if x.held then some .passback
        else if recentAdmission x rc now passback then some .passback
        else if token.medium = .code ∧ token.usesAllowed ≤ x.uses then some .spent
        else none := by
  simp only [tapJudge, h]

end

/-! ## Checks 5 to 7 -/

section
variable {s : State} {token : TokenRecord} {rc : RoleClass} {now : CalTime} {line : Nat} {product : Product} {r : Reason}
  (l : LaneId)

theorem State.judgeToken_unresolved (h : resolveProduct s.fare token rc line now.second = .error r) :
    ∃ p, s.judgeToken l token rc now line = .refuse p r :=
  ⟨_, by simp only [State.judgeToken, h]; rfl⟩

variable (h : resolveProduct s.fare token rc line now.second = .ok product)
include h

theorem State.judgeToken_outOfDays (hd : judgeDays token now.day = some r) :
    ∃ p, s.judgeToken l token rc now line = .refuse p r :=
  ⟨_, by simp only [State.judgeToken, h, hd]; rfl⟩

theorem State.judgeToken_tapped (hd : judgeDays token now.day = none)
    (ht : tapJudge s.taps token rc now s.station.landing.passback = some r) :
    ∃ p, s.judgeToken l token rc now line = .refuse p r :=
  ⟨_, by simp only [State.judgeToken, h, hd, ht]; rfl⟩

theorem State.judgeToken_pass (hd : judgeDays token now.day = none)
    (ht : tapJudge s.taps token rc now s.station.landing.passback = none) :
    s.judgeToken l token rc now line = .pass
      { token := token, time := now, base := s.now, roleClass := rc, line := line, product := product } := by
  simp only [State.judgeToken, h, hd, ht]

end

/-! ## Checks 1 to 4 -/

section
variable {s : State} {l : LaneId} {rc : RoleClass} (token : TokenRecord)

theorem State.judgeTap_notServing (h : roleClassOf (s.lane l).role = none) :
    s.judgeTap l token = .refuse (s.tapProgress l token) .notServing := by
  simp only [State.judgeTap, h]

variable (hrc : roleClassOf (s.lane l).role = some rc)
include hrc

theorem State.judgeTap_blocked (hb : (s.lane l).cond.blocked = true) :
    s.judgeTap l token = .refuse (s.tapProgress l token) .laneBlocked := by
  simp only [State.judgeTap, hrc, hb, if_true]

variable (hb : (s.lane l).cond.blocked = false)
include hb

theorem State.judgeTap_busy (he : laneBusy (s.lane l).entries = true) :
    s.judgeTap l token = .refuse (s.tapProgress l token) .laneBusy := by
  simp only [State.judgeTap, hrc, hb, he, Bool.false_eq_true, if_false, if_true]

variable (he : laneBusy (s.lane l).entries = false)
include he

theorem State.judgeTap_clockUnset (hc : s.clock.calendar = none) :
    s.judgeTap l token = .refuse (s.tapProgress l token) .clockUnset := by
  simp only [State.judgeTap, hrc, hb, he, hc, Bool.false_eq_true, if_false]

theorem State.judgeTap_noLine {now : CalTime} {r : Reason} (hc : s.clock.calendar = some now)
    (hl : s.currentLine l = .error r) : s.judgeTap l token = .refuse (s.tapProgress l token) r := by
  simp only [State.judgeTap, hrc, hb, he, hc, hl, Bool.false_eq_true, if_false]

theorem State.judgeTap_token {now : CalTime} {line : Nat} (hc : s.clock.calendar = some now)
    (hl : s.currentLine l = .ok line) : s.judgeTap l token = s.judgeToken l token rc now line := by
  simp only [State.judgeTap, hrc, hb, he, hc, hl, Bool.false_eq_true, if_false]

end

/-- The three roles that serve no tap have no role class (R39). -/
theorem roleClassOf_none {role : Role} (h : role = .off ∨ role = .alightA ∨ role = .alightB) :
    roleClassOf role = none := by
  rcases h with rfl | rfl | rfl <;> rfl

/-- The three roles that serve taps have a role class: ENTRY off the berths, BOARD at one (R39). -/
theorem roleClassOf_serving {role : Role} (h : role = .entry ∨ role = .boardA ∨ role = .boardB) :
    (role = .entry ∧ role.boards = none ∧ roleClassOf role = some .entry)
    ∨ ∃ b, role.boards = some b ∧ roleClassOf role = some .board := by
  rcases h with rfl | rfl | rfl
  · exact .inl ⟨rfl, rfl, rfl⟩
  · exact .inr ⟨_, rfl, rfl⟩
  · exact .inr ⟨_, rfl, rfl⟩

/-! ## The current line -/

theorem State.currentLine_entry {s : State} {l : LaneId} (h : (s.lane l).role.boards = none) :
    s.currentLine l = .ok (s.lane l).settings.homeLine := by
  simp only [State.currentLine, h]

theorem State.currentLine_refused {s : State} {l : LaneId} {b : BerthId} {r : Reason}
    (h : (s.lane l).role.boards = some b) (ha : admissionRefusal (s.call b) = some r) :
    s.currentLine l = .error r := by
  simp only [State.currentLine, h, ha]

theorem State.currentLine_boarding {s : State} {l : LaneId} {b : BerthId} {c : Call}
    (h : (s.lane l).role.boards = some b) (hc : s.call b = some c) (hs : c.suspended = false)
    (hg : c.stage = .boarding) : s.currentLine l = .ok c.line := by
  simp [State.currentLine, h, hc, admissionRefusal, hs, hg]

/-- Settles O21, check by check in the order of R108. -/
theorem instantChecksRefuseInOrder : Obligations.InstantChecksRefuseInOrder := by
  unfold Obligations.InstantChecksRefuseInOrder
  intro s l token
  refine ⟨fun h => ⟨_, State.judgeTap_notServing token (roleClassOf_none h)⟩, fun hrole => ?_⟩
  have hserves : ∃ rc, roleClassOf (s.lane l).role = some rc := by
    rcases roleClassOf_serving hrole with ⟨-, -, h⟩ | ⟨b, -, h⟩ <;> exact ⟨_, h⟩
  obtain ⟨rc', hrc⟩ := hserves
  refine ⟨fun hb => ⟨_, State.judgeTap_blocked token hrc hb⟩, fun hb =>
    ⟨fun hbusy => ⟨_, State.judgeTap_busy token hrc hb ((laneBusy_iff _).mpr hbusy)⟩, fun ⟨hn, hp⟩ => ?_⟩⟩
  have he := laneBusy_eq_false hn hp
  refine ⟨fun hc => ⟨_, State.judgeTap_clockUnset token hrc hb he hc⟩, fun hc b hboards => ?berth,
    fun now rc line hc hline => ?token⟩
  case berth =>
    obtain ⟨now, hnow⟩ := Option.ne_none_iff_exists'.mp hc
    have refused {r : Reason} (ha : admissionRefusal (s.call b) = some r) :
        ∃ p, s.judgeTap l token = .refuse p r :=
      ⟨_, State.judgeTap_noLine token hrc hb he hnow (State.currentLine_refused hboards ha)⟩
    refine ⟨fun h => refused (admissionRefusal_of (.inl ⟨h, rfl⟩)).1, fun c h =>
      ⟨fun hs => refused (admissionRefusal_of (.inr ⟨c, h, .inl ⟨hs, rfl⟩⟩)).1,
        fun hs hg => refused (admissionRefusal_of (.inr ⟨c, h, .inr (.inl ⟨hs, hg, rfl⟩)⟩)).1,
        fun hs hg => refused (admissionRefusal_of (.inr ⟨c, h, .inr (.inr ⟨hs, hg, rfl⟩)⟩)).1⟩⟩
  case token =>
    have judged : s.judgeTap l token = s.judgeToken l token rc now line := by
      rcases roleClassOf_serving hrole with ⟨hentry, hboards, hclass⟩ | ⟨b, hboards, hclass⟩
      · rcases hline with ⟨-, rfl, rfl⟩ | ⟨b, -, hb', -⟩
        · exact State.judgeTap_token token hclass hb he hc (State.currentLine_entry hboards)
        · cases hboards.symm.trans hb'
      · rcases hline with ⟨hentry, -, -⟩ | ⟨b', c, hb', hcall, hs, hg, rfl, rfl⟩
        · rw [hentry] at hboards
          cases hboards
        · exact State.judgeTap_token token hclass hb he hc (State.currentLine_boarding hb' hcall hs hg)
    rw [judged]
    refine ⟨fun r h => State.judgeToken_unresolved l h, fun product h =>
      ⟨fun hd => State.judgeToken_outOfDays l h (judgeDays_early hd),
        fun hd hu => State.judgeToken_outOfDays l h (judgeDays_late hd hu), fun hd hu e hev => ?table⟩⟩
    subst hev
    have hdays := judgeDays_valid hd hu
    refine ⟨fun hx => ⟨fun hm h0 => ?noUse, fun hm => ?unknown⟩, fun x hx =>
      ⟨fun hh => ?held, fun hh => ⟨fun ha => ?recent, fun ha => ⟨fun hm hs => ?spent, fun hm => ?known⟩⟩⟩⟩
    case noUse =>
      exact State.judgeToken_tapped l h hdays ((tapJudge_unknown rc now _ hx).trans (if_pos ⟨hm, h0⟩))
    case unknown =>
      exact State.judgeToken_pass l h hdays
        ((tapJudge_unknown rc now _ hx).trans (if_neg fun ⟨hcode, h0⟩ => Medium.card_or hm hcode h0))
    case held => exact State.judgeToken_tapped l h hdays ((tapJudge_known rc now _ hx).trans (if_pos hh))
    all_goals have judgement := tapJudge_known rc now s.station.landing.passback hx
    all_goals simp only [hh, ha, Bool.false_eq_true, if_false, if_true] at judgement
    case recent => exact State.judgeToken_tapped l h hdays judgement
    case spent => exact State.judgeToken_tapped l h hdays (judgement.trans (if_pos ⟨hm, hs⟩))
    case known =>
      exact State.judgeToken_pass l h hdays
        (judgement.trans (if_neg fun ⟨hcode, hle⟩ => absurd (Medium.card_or hm hcode) hle.not_gt))

/-! ## No instant check refuses for the log -/

theorem resolveFrom_error {t : List FareEntry} {line second : Nat} {r : Reason} :
    ∀ {reads code : Nat}, resolveFrom t line second reads code = .error r → r ≠ .logFull
  | 0, _, h => by cases h; simp
  | reads + 1, code, h => by
    unfold resolveFrom at h
    split at h
    · cases h; simp
    · split at h
      · cases h; simp
      · cases h
      · exact resolveFrom_error h

theorem resolveProduct_error {t : List FareEntry} {token : TokenRecord} {rc : RoleClass} {line second : Nat} {r : Reason}
    (h : resolveProduct t token rc line second = .error r) : r ≠ .logFull := by
  unfold resolveProduct at h
  split at h
  · rename_i hf
    cases h
    exact resolveFrom_error hf
  · split at h
    · cases h; simp
    · split at h
      · cases h; simp
      · cases h

theorem judgeDays_some {token : TokenRecord} {day : Nat} {r : Reason} (h : judgeDays token day = some r) :
    r ≠ .logFull := by
  unfold judgeDays at h
  repeat' split at h
  all_goals cases h
  all_goals simp

theorem tapJudge_some {t : List TapEntry} {token : TokenRecord} {rc : RoleClass} {now : CalTime} {passback : Nat}
    {r : Reason} (h : tapJudge t token rc now passback = some r) : r ≠ .logFull := by
  unfold tapJudge at h
  repeat' split at h
  all_goals cases h
  all_goals simp

theorem State.currentLine_error {s : State} {l : LaneId} {r : Reason} (h : s.currentLine l = .error r) :
    r ≠ .logFull := by
  unfold State.currentLine at h
  split at h
  · cases h
  · split at h
    · rename_i ha
      cases h
      unfold admissionRefusal at ha
      repeat' split at ha
      all_goals cases ha
      all_goals simp
    · cases h
    · cases h; simp

theorem State.judgeToken_refuse_ne_logFull {s : State} {l : LaneId} {token : TokenRecord} {rc : RoleClass}
    {now : CalTime} {line : Nat} {p : Progress} {r : Reason} (h : s.judgeToken l token rc now line = .refuse p r) :
    r ≠ .logFull := by
  unfold State.judgeToken at h
  dsimp only at h
  split at h
  · rename_i product
    cases h
    exact resolveProduct_error product
  · split at h
    · rename_i days
      cases h
      exact judgeDays_some days
    · split at h
      · rename_i table
        cases h
        exact tapJudge_some table
      · cases h

/-- The log is asked for nothing before check 10, so no instant check refuses LOG_FULL (R108). -/
theorem State.judgeTap_refuse_ne_logFull {s : State} {l : LaneId} {token : TokenRecord} {p : Progress} {r : Reason}
    (h : s.judgeTap l token = .refuse p r) : r ≠ .logFull := by
  unfold State.judgeTap at h
  dsimp only at h
  split at h
  · cases h; simp
  · split at h
    · cases h; simp
    · split at h
      · cases h; simp
      · split at h
        · cases h; simp
        · split at h
          · rename_i line
            cases h
            exact State.currentLine_error line
          · exact State.judgeToken_refuse_ne_logFull h

/-! ## A TAP at a FREE context -/

/-- A TAP at a FREE context: counted and answered, and its evaluation started (R44, R45). -/
theorem exec_tap_free {s : State} {l : LaneId} {fields : List Byte} {token : TokenRecord} (hr : s.keep.run = .running)
    (ht : (s.lane l).takeHeld = false) (hd : decodeToken fields = some token) (hf : (s.lane l).ctx = .free) :
    exec (.tap l fields) s = .next ((s.setLane l (s.lane l).tapped).startEvaluation l token) := by
  have free : ((s.setLane l (s.lane l).tapped).lane l).ctx = .free := by rw [State.setLane_lane]; exact hf
  rw [exec_tap hr ht hd, State.takeTap_eq]
  simp only [State.clearForTap, free]

/-- Counting and answering a TAP changes nothing that the instant checks read. -/
theorem State.judgeTap_tapped (s : State) (l : LaneId) (token : TokenRecord) :
    (s.setLane l (s.lane l).tapped).judgeTap l token = s.judgeTap l token :=
  s.judgeTap_updLane l token Lane.tapped fun _ => ⟨rfl, rfl, rfl, rfl⟩

theorem exec_tap_refused {s : State} {l : LaneId} {fields : List Byte} {token : TokenRecord} {p : Progress} {r : Reason}
    (hr : s.keep.run = .running) (ht : (s.lane l).takeHeld = false) (hd : decodeToken fields = some token)
    (hf : (s.lane l).ctx = .free) (hj : s.judgeTap l token = .refuse p r) :
    exec (.tap l fields) s = .next ((s.setLane l (s.lane l).tapped).decideRefuse l p r none) := by
  rw [exec_tap_free hr ht hd hf]
  simp only [State.startEvaluation, s.judgeTap_tapped, hj]

theorem exec_tap_passed {s : State} {l : LaneId} {fields : List Byte} {token : TokenRecord} {e : Evaluation}
    (hr : s.keep.run = .running) (ht : (s.lane l).takeHeld = false) (hd : decodeToken fields = some token)
    (hf : (s.lane l).ctx = .free) (hj : s.judgeTap l token = .pass e) :
    exec (.tap l fields) s = .next ((s.setLane l (s.lane l).tapped).denyCheck l e) := by
  rw [exec_tap_free hr ht hd hf]
  simp only [State.startEvaluation, s.judgeTap_tapped, hj]

/-- Settles O22: the check's refusal is the decision, and its record waits for no claim. -/
theorem tapRefusedAtAnInstantCheck : Obligations.TapRefusedAtAnInstantCheck := by
  unfold Obligations.TapRefusedAtAnInstantCheck
  rintro s l fields token p r hr ht hd hf hj t rfl
  obtain ⟨htoken, harrival, hflags⟩ := State.judgeTap_refuse hj
  have held : ((s.setLane l (s.lane l).tapped).lane l).takeHeld = false := by rw [State.setLane_lane]; exact ht
  have verdict : (s.setLane l (s.lane l).tapped).refusing l p r = s.setLane l { s.lane l with
      ctx := .refused { tokenId := token.id, arrival := { calendar := s.clock.calendar, base := s.now },
                        roleClass := p.roleClass, line := p.line, product := p.product, reason := r,
                        denyReason := none, flags := .clear, remaining := recordBalance token }
      stats := { (s.lane l).stats with taps := bump (s.lane l).stats.taps, refused := bump (s.lane l).stats.refused }
      reply := some .tapStarted } := by
    unfold State.refusing
    rw [State.setLane_setLane, State.setLane_lane]
    simp only [Progress.refused, htoken, harrival, hflags]
    rfl
  rw [exec_tap_refused hr ht hd hf hj, ← verdict]
  refine ⟨fun hg => congrArg _ (State.decideRefuse_unlogged held hg p r), fun hg => congrArg _ ?_⟩
  rw [State.decideRefuse_logged held hg p (State.judgeTap_refuse_ne_logFull hj), harrival, htoken]

end Sys2Proof.Machine
end

section
/-!
PROOF. A TAP that passes the instant checks (R115 to R125): the lookup it waits for, the decision it has at once, and the
charge and content of an ADMIT (R99 to R103).
-/
namespace Sys2Proof.Machine

/-! ## The deny check -/

/-- A lookup queued past a replacement of the lane: the lane is replaced once more (R115). -/
theorem State.queueLookup_setLane (s : State) (l : LaneId) (x : Lane) (e : Evaluation) :
    (s.setLane l x).queueLookup l e
      = ((s.withDeny { s.deny with queue := s.deny.queue ++ [newLookup l e.token.id] }).arbitrate).setLane l
          { x with ctx := .waiting e (e.base + x.settings.verdictDeadline) } := by
  have moved : (s.setLane l x).queueLookup l e
      = (((s.withDeny { s.deny with queue := s.deny.queue ++ [newLookup l e.token.id] }).arbitrate).setLane l x).setLane l
          { (s.setLane l x).lane l with
            ctx := .waiting e (e.base + ((s.setLane l x).lane l).settings.verdictDeadline) } := rfl
  rw [moved, State.setLane_setLane, State.setLane_lane]

/-- Settles O23: the deny check of the counted and answered TAP queues its lookup. -/
theorem tapWithASetBitWaitsForALookup : Obligations.TapWithASetBitWaitsForALookup := by
  unfold Obligations.TapWithASetBitWaitsForALookup
  intro s l fields token e hr ht hd hf hj hbit
  obtain ⟨rfl, hbase, -⟩ := State.judgeTap_pass hj
  rw [exec_tap_passed hr ht hd hf hj]
  have bit : (s.setLane l (s.lane l).tapped).deny.filterTest e.token.id = .bitSet := hbit
  simp only [State.denyCheck, bit, State.queueLookup_setLane, hbase]
  rfl

/-! ## Decided at once -/

theorem State.decidePlace_entry {s : State} {l : LaneId} (h : (s.lane l).role.boards = none) (e : Evaluation)
    (o : Offer) : s.decidePlace l e o = s.decideOffer l o := by
  simp only [State.decidePlace, h]

theorem State.applyPolicy_opened {s : State} (h : s.station.landing.failPolicy = .opened) (l : LaneId)
    (e : Evaluation) : s.applyPolicy l e = s.decideClaims l e .unchecked := by
  simp only [State.applyPolicy, h]

theorem State.applyPolicy_closed {s : State} (h : s.station.landing.failPolicy = .closed) (l : LaneId)
    (e : Evaluation) : s.applyPolicy l e = s.decideRefuse l (e.progress .clear) .listUnavailable none := by
  simp only [State.applyPolicy, h]

section
variable {s : State} {l : LaneId} {fields : List Byte} {token : TokenRecord} {e : Evaluation}
  (hr : s.keep.run = .running) (ht : (s.lane l).takeHeld = false) (hd : decodeToken fields = some token)
  (hf : (s.lane l).ctx = .free) (hj : s.judgeTap l token = .pass e)
include hr ht hd hf hj

theorem exec_tap_bitClear (hbit : s.deny.filterTest token.id = .bitClear) :
    exec (.tap l fields) s = .next ((s.setLane l (s.lane l).tapped).decideClaims l e .clear) := by
  obtain ⟨rfl, -, -⟩ := State.judgeTap_pass hj
  have bit : (s.setLane l (s.lane l).tapped).deny.filterTest e.token.id = .bitClear := hbit
  rw [exec_tap_passed hr ht hd hf hj]
  simp only [State.denyCheck, bit]

theorem exec_tap_noList (hbit : s.deny.filterTest token.id = .noList) :
    exec (.tap l fields) s = .next ((s.setLane l (s.lane l).tapped).applyPolicy l e) := by
  obtain ⟨rfl, -, -⟩ := State.judgeTap_pass hj
  have bit : (s.setLane l (s.lane l).tapped).deny.filterTest e.token.id = .noList := hbit
  rw [exec_tap_passed hr ht hd hf hj]
  simp only [State.denyCheck, bit]

end

/-- Every claim granted at a lane that boards at no berth (R120 to R124). -/
theorem State.decideClaims_admitted {s : State} {l : LaneId} {e : Evaluation} {flags : DenyFlags} {charge : Nat}
    {cls : FareClass} {taps : List TapEntry} (ht : (s.lane l).takeHeld = false) (hb : (s.lane l).role.boards = none)
    (hk : chargeOf e s.taps = .ok (charge, cls)) (hu : tapClaim s.taps e.token e.base = .ok taps)
    (hl : s.log.reserve < 1024 - s.log.records.length) :
    s.decideClaims l e flags
      = ((s.withTaps taps).withLog { s.log with reserve := s.log.reserve + 1 }).setLane l { s.lane l with
          ctx := .offer (e.offer flags charge cls s.station.landing.landingId)
          takeDeadline := some (s.now + (s.lane l).settings.writeTimeout) } := by
  rw [State.decideClaims_place hk hu hl,
    State.decidePlace_entry (s := (s.withTaps taps).withLog { s.log with reserve := s.log.reserve + 1 }) hb]
  exact State.decideOffer_of (s := (s.withTaps taps).withLog { s.log with reserve := s.log.reserve + 1 }) ht _

/-! ## The transfer test and the charge -/

/-- A CARD's transfer test of a RIDES or VALUE product reads its record (R99). -/
theorem isTransfer_card {e : Evaluation} (hm : e.token.medium = .card)
    (hk : e.product.kind = .rides ∨ ∃ amount, e.product.kind = .value amount) (taps : List TapEntry) :
    isTransfer e taps = true ↔ ∃ a, e.token.last = some a ∧ transferFrom e a.line a.time = true := by
  rcases hk with hk | ⟨amount, hk⟩ <;> cases hl : e.token.last <;> simp [isTransfer, hm, hk, hl]

/-- A CODE's transfer test of a TICKET reads its table entry (R100). -/
theorem isTransfer_code {e : Evaluation} (hm : e.token.medium = .code) (hk : e.product.kind = .ticket)
    (taps : List TapEntry) :
    isTransfer e taps = true
      ↔ ∃ x a, tapFind taps e.token.id = some x ∧ x.last = some a ∧ transferFrom e a.line a.time = true := by
  cases hx : tapFind taps e.token.id with
  | none => simp [isTransfer, hm, hk, hx]
  | some x => cases hl : x.last <;> simp [isTransfer, hm, hk, hx, hl]

/-- No other medium and kind has a transfer. -/
theorem isTransfer_iff (e : Evaluation) (taps : List TapEntry) :
    isTransfer e taps = true ↔
      (e.token.medium = .card ∧ (e.product.kind = .rides ∨ ∃ amount, e.product.kind = .value amount)
        ∧ ∃ a, e.token.last = some a ∧ transferFrom e a.line a.time = true)
      ∨ (e.token.medium = .code ∧ e.product.kind = .ticket
        ∧ ∃ x a, tapFind taps e.token.id = some x ∧ x.last = some a ∧ transferFrom e a.line a.time = true) := by
  cases hm : e.token.medium with
  | card =>
    cases hk : e.product.kind with
    | rides => simp [isTransfer_card hm (.inl hk) taps]
    | value amount => simp [isTransfer_card hm (.inr ⟨amount, hk⟩) taps]
    | pass | ticket => simp [isTransfer, hm, hk]
  | code =>
    cases hk : e.product.kind with
    | ticket => simp [isTransfer_code hm hk taps]
    | pass | rides | value amount => simp [isTransfer, hm, hk]

theorem chargeOf_pass {e : Evaluation} (h : e.product.kind = .pass) (taps : List TapEntry) :
    chargeOf e taps = .ok (0, .pass) := by
  simp only [chargeOf, h]

theorem chargeOf_transfer {e : Evaluation} {taps : List TapEntry} (h : e.product.kind ≠ .pass)
    (ht : isTransfer e taps = true) : chargeOf e taps = .ok (0, .transfer) := by
  cases hk : e.product.kind with
  | pass => exact absurd hk h
  | rides | value amount | ticket => simp only [chargeOf, hk, ht, if_true]

section
variable {e : Evaluation} {taps : List TapEntry} (ht : isTransfer e taps = false)
include ht

theorem chargeOf_ticket (h : e.product.kind = .ticket) : chargeOf e taps = .ok (0, .fare) := by
  simp only [chargeOf, h, ht, Bool.false_eq_true, if_false]

theorem chargeOf_rides (h : e.product.kind = .rides) :
    chargeOf e taps = if 1 ≤ e.token.rides then .ok (1, .fare) else .error .noRides := by
  simp only [chargeOf, h, ht, Bool.false_eq_true, if_false]

theorem chargeOf_value {amount : Nat} (h : e.product.kind = .value amount) :
    chargeOf e taps = if amount ≤ e.token.storedValue then .ok (amount, .fare) else .error .lowValue := by
  simp only [chargeOf, h, ht, Bool.false_eq_true, if_false]

end

/-! ## The remaining balance and the card content -/

theorem remainingBalance_code {token : TokenRecord} (h : token.medium = .code) (kind : TerminalKind) (charge : Nat)
    (cls : FareClass) : remainingBalance token kind charge cls = none := by
  simp only [remainingBalance, h]

/-- What a CARD has left: its rides less the charge of a RIDES fare, its value less the charge of a VALUE fare (R102). -/
theorem remainingBalance_card {token : TokenRecord} (h : token.medium = .card) (kind : TerminalKind) (charge : Nat)
    (cls : FareClass) :
    ∃ left : Balance, remainingBalance token kind charge cls = some left
      ∧ left.rides = (if kind = .rides ∧ cls = .fare then token.rides - charge else token.rides)
      ∧ ((∃ amount, kind = .value amount) → cls = .fare → left.storedValue = token.storedValue - charge)
      ∧ (((∀ amount, kind ≠ .value amount) ∨ cls ≠ .fare) → left.storedValue = token.storedValue) := by
  unfold remainingBalance
  rw [h]
  cases kind <;> cases cls <;> exact ⟨_, rfl, by simp⟩

/-- Settles O24: the deny check's answer decides, then the claims on an ENTRY lane, the charge by the product's kind, and
the offer by the medium. -/
theorem tapAdmittedAtOnceOnAnEntryLane : Obligations.TapAdmittedAtOnceOnAnEntryLane := by
  unfold Obligations.TapAdmittedAtOnceOnAnEntryLane
  refine ⟨?decided, ?admitted, fun e taps => ⟨isTransfer_iff e taps, fun h => chargeOf_pass h taps,
    fun h ht => chargeOf_transfer h ht, fun ht => ⟨chargeOf_ticket ht, fun h hn => (chargeOf_rides ht h).trans (if_pos hn),
      fun h hn => (chargeOf_rides ht h).trans (if_neg (by omega)),
      fun amount h hn => (chargeOf_value ht h).trans (if_pos hn),
      fun amount h hn => (chargeOf_value ht h).trans (if_neg hn.not_ge)⟩⟩, ?offer⟩
  case decided =>
    rintro s l fields token e hr ht hd hf hj u rfl
    obtain ⟨htoken, -, -⟩ := State.judgeTap_pass hj
    have held : ((s.setLane l (s.lane l).tapped).lane l).takeHeld = false := by rw [State.setLane_lane]; exact ht
    refine ⟨exec_tap_bitClear hr ht hd hf hj, fun hbit => ?_⟩
    rw [exec_tap_noList hr ht hd hf hj hbit]
    refine ⟨fun hp => congrArg _ (State.applyPolicy_opened (s := s.setLane l (s.lane l).tapped) hp l e),
      fun hp t htt => ?_⟩
    rw [State.applyPolicy_closed (s := s.setLane l (s.lane l).tapped) hp, htt]
    refine ⟨fun hg => congrArg _ (State.decideRefuse_unlogged held hg _ _), fun hg => congrArg _ ?_⟩
    rw [State.decideRefuse_logged held hg _ (by simp), ← htoken]
    rfl
  case admitted =>
    intro s l fields token e flags charge cls taps hr ht hd hf hrole hj hflags hk hu hl
    obtain ⟨htoken, hbase, -⟩ := State.judgeTap_pass hj
    have decided : exec (.tap l fields) s = .next ((s.setLane l (s.lane l).tapped).decideClaims l e flags) := by
      rcases hflags with ⟨hbit, rfl⟩ | ⟨hbit, hp, rfl⟩
      · exact exec_tap_bitClear hr ht hd hf hj hbit
      · rw [exec_tap_noList hr ht hd hf hj hbit]
        exact congrArg _ (State.applyPolicy_opened (s := s.setLane l (s.lane l).tapped) hp l e)
    have lane := s.setLane_lane l (s.lane l).tapped
    rw [decided, State.decideClaims_admitted (s := s.setLane l (s.lane l).tapped) (taps := taps)
      (by rw [lane]; exact ht) (by rw [lane]; exact congrArg Role.boards hrole) hk (by rw [htoken, hbase]; exact hu) hl,
      lane]
    exact congrArg _ (State.setLane_setLane
      ((s.withTaps taps).withLog { s.log with reserve := s.log.reserve + 1 }) l (s.lane l).tapped _)
  case offer =>
    rintro e flags charge cls landingId o rfl
    refine ⟨rfl, rfl, rfl, rfl, rfl, rfl, rfl, rfl, rfl, rfl, fun h => ?_, fun h => ?_⟩
    · have balance := remainingBalance_code h e.product.kind charge cls
      exact ⟨balance, by simp only [Evaluation.offer, newContent, balance, Option.map_none]⟩
    · obtain ⟨left, balance, amounts⟩ := remainingBalance_card h e.product.kind charge cls
      exact ⟨left, balance, by simp only [Evaluation.offer, newContent, balance, Option.map_some], amounts⟩

end Sys2Proof.Machine
end

section
/-!
PROOF. The verdict deadline (R118): the lookup withdrawn (R154), the fail policy's decision (R117), and the TAKE held at
the lane answered after it (R51).
-/
namespace Sys2Proof.Machine

/-! ## A lookup withdrawn -/

section
variable {s : State} {l : LaneId}

/-- A port that is busy, or has granted nothing to a lookup of the lane at the head of the queue (R178). -/
theorem State.grantedLookup_none (h : s.port.op ≠ none ∨ s.port.due = none ∨ s.port.due = some .job
    ∨ s.deny.queue.head?.map (·.lane) ≠ some l) : s.grantedLookup l = none := by
  unfold State.grantedLookup
  split
  · rename_i q _ hop hdue hq
    rcases h with h | h | h | h
    · exact absurd hop h
    · cases h.symm.trans hdue
    · cases h.symm.trans hdue
    · exact if_neg fun hl => h (by rw [hq, ← hl]; rfl)
  · rfl

theorem State.withdrawLookup_ungranted (h : s.grantedLookup l = none) : s.withdrawLookup l = s.removeLookup l := by
  simp only [State.withdrawLookup, h]

/-- No lookup of the lane is being read: it leaves the queue alone (R154). -/
theorem State.removeLookup_queued (h : ∀ q ∈ s.deny.queue, q.lane = l → q.reading = false) :
    s.removeLookup l = s.withDeny (s.deny.withoutLookup l) := by
  have idle : (s.deny.queue.any fun q => decide (q.lane = l) && q.reading) = false := by
    simpa using h
  simp only [State.removeLookup, idle]

/-- A read in progress for the lane's lookup runs on for nobody (R154). -/
theorem State.removeLookup_reading (h : ∃ q ∈ s.deny.queue, q.lane = l ∧ q.reading = true) {page : Nat}
    (hop : s.port.op = some (.pageRead .lookup page)) :
    s.removeLookup l = (s.withDeny (s.deny.withoutLookup l)).withPort
      { s.port with op := some (.pageRead .withdrawn page) } := by
  have reading : (s.deny.queue.any fun q => decide (q.lane = l) && q.reading) = true := by
    simpa using h
  simp only [State.removeLookup, reading, hop]

/-- The queue without a lane that has no lookup in it. -/
theorem DenyUnit.withoutLookup_none {d : DenyUnit} (h : ∀ q ∈ d.queue, q.lane ≠ l) : d.withoutLookup l = d := by
  have kept : d.queue.filter (fun q => decide (q.lane ≠ l)) = d.queue :=
    List.filter_eq_self.mpr fun q hq => decide_eq_true (h q hq)
  rw [DenyUnit.withoutLookup, kept]

theorem State.withdrawLookup_none (h : ∀ q ∈ s.deny.queue, q.lane ≠ l) : s.withdrawLookup l = s := by
  have head : s.deny.queue.head?.map (·.lane) ≠ some l := by
    cases hq : s.deny.queue with
    | nil => simp
    | cons q rest => simpa using h q (by simp [hq])
  rw [State.withdrawLookup_ungranted (State.grantedLookup_none (.inr (.inr (.inr head)))),
    State.removeLookup_queued fun q hq hl => absurd hl (h q hq), DenyUnit.withoutLookup_none h]
  rfl

/-- The streak count of R177 saturates at 8. -/
theorem bumpTo_eq_min (top n : Nat) : bumpTo top n = min top (n + 1) := by
  unfold bumpTo
  split <;> omega

/-- A head lookup whose first read is granted counts as started (R152). -/
theorem State.countStart_of (s : State) (q : Lookup) :
    (q.captured ≠ none → s.countStart q = s)
    ∧ (q.captured = none → s.countStart q = s.count fun x => { x with lookupsStarted := bump x.lookupsStarted }) := by
  unfold State.countStart
  exact ⟨fun h => if_neg (by simpa using h), fun h => if_pos (by simpa using h)⟩

/-- A read that the port had granted the lane's lookup runs, and for nobody (R154, R178, log 19). -/
theorem State.withdrawLookup_granted {q : Lookup} {rest : List Lookup} {jobWaits : Bool}
    (hq : s.deny.queue = q :: rest) (hl : q.lane = l) (hop : s.port.op = none)
    (hdue : s.port.due = some (.lookup jobWaits)) :
    s.withdrawLookup l = ((s.countStart q).withDeny (s.deny.withoutLookup l)).withPort { s.port with
      op := some (.pageRead .withdrawn (bankFlashPage (q.captured.getD s.deny.selector) q.nextPage)), due := none
      streak := if jobWaits then min 8 (s.port.streak + 1) else s.port.streak } := by
  have granted : s.grantedLookup l = some jobWaits := by
    simp only [State.grantedLookup, hop, hdue, hq, hl, if_true]
  have read : s.grantRead jobWaits = ((s.countStart q).withDeny s.deny.startRead).withPort
      (s.port.grantLookup (bankFlashPage (q.captured.getD s.deny.selector) q.nextPage) jobWaits) := by
    simp only [State.grantRead, hq]
  have reading : ∃ x ∈ (s.grantRead jobWaits).deny.queue, x.lane = l ∧ x.reading = true := by
    rw [State.grantRead_queue hq]
    exact ⟨_, List.mem_cons_self .., hl, rfl⟩
  have without : s.deny.startRead.withoutLookup l = s.deny.withoutLookup l := by
    simp [DenyUnit.withoutLookup, DenyUnit.startRead, hq, hl]
  rw [show s.withdrawLookup l = (s.grantRead jobWaits).removeLookup l by simp only [State.withdrawLookup, granted],
    State.removeLookup_reading reading (by rw [read]; rfl), read]
  simp only [State.withPort_deny, State.withDeny_deny, without, FlashPort.grantLookup, State.withPort_port,
    bumpTo_eq_min, streakLimit]
  rfl

end

/-! ## A decision leaves the list alone -/

/-- From `s` to `t` neither the recent-tap table, the berths, the deny list unit nor the list flash port changed, as where
a REFUSAL record is asked for (R126). -/
structure Recorded (s t : State) : Prop where
  taps : t.taps = s.taps
  berths : t.berths = s.berths
  deny : t.deny = s.deny
  port : t.port = s.port

theorem Recorded.trans {s t u : State} (h : Recorded s t) (k : Recorded t u) : Recorded s u :=
  ⟨k.taps.trans h.taps, k.berths.trans h.berths, k.deny.trans h.deny, k.port.trans h.port⟩

theorem State.appendUnreserved_recorded (s : State) (c : Content) : Recorded s (s.appendUnreserved c) := by
  unfold State.appendUnreserved
  split <;> exact ⟨rfl, rfl, rfl, rfl⟩

theorem State.appendAll_recorded (cs : List Content) (s : State) :
    Recorded s (cs.foldl State.appendUnreserved s) := by
  induction cs generalizing s with
  | nil => exact ⟨rfl, rfl, rfl, rfl⟩
  | cons c rest ih => exact (s.appendUnreserved_recorded c).trans (ih _)

theorem State.askRefusal_recorded (s : State) (r : Reason) (c : Content) : Recorded s (s.askRefusal r c) := by
  have taken : Recorded s s.takeAsked :=
    Recorded.trans (t := s.withAsked []) ⟨rfl, rfl, rfl, rfl⟩ (State.appendAll_recorded _ _)
  unfold State.askRefusal
  split
  · exact ⟨rfl, rfl, rfl, rfl⟩
  · exact taken.trans (State.appendUnreserved_recorded _ _)

/-! ## What a decision leaves at its lane -/

/-- From `s` to `t` the lane was given this verdict, its TAKE not held and its deadline decisions standing; the deny list
unit and the port stand. -/
structure Decided (s t : State) (l : LaneId) (verdict : Context) : Prop where
  ctx : (t.lane l).ctx = verdict
  takeHeld : (t.lane l).takeHeld = false
  counted : (t.lane l).stats.deadlineDecisions = (s.lane l).stats.deadlineDecisions
  deny : t.deny = s.deny
  port : t.port = s.port

/-- The verdicts of an evaluation whose claims decide (R120 to R125). -/
def Evaluation.Claimed (e : Evaluation) (flags : DenyFlags) (landingId : Nat) (verdict : Context) : Prop :=
  (∃ charge cls, verdict = .offer (e.offer flags charge cls landingId))
  ∨ ∃ r, verdict = .refused ((e.progress flags).refused r none)

/-- What changes no lane, nor the list, may stand before a decision. -/
theorem Decided.after {s t u : State} {l : LaneId} {v : Context} (h : Decided t u l v) (lanes : t.lanes = s.lanes)
    (deny : t.deny = s.deny) (port : t.port = s.port) : Decided s u l v :=
  ⟨h.ctx, h.takeHeld, by rw [h.counted]; simp only [State.lane, lanes], h.deny.trans deny, h.port.trans port⟩

/-- A place claim leaves the deny list unit and the port (R25). -/
theorem State.claimPlace_list (s : State) (b : BerthId) (l : LaneId) :
    (s.claimPlace b l).1.deny = s.deny ∧ (s.claimPlace b l).1.port = s.port := by
  rcases s.claimPlace_cases b l with ⟨r, h⟩ | ⟨c, -, -, h | h⟩ <;> rw [h]
  · exact ⟨rfl, rfl⟩
  · rw [State.setCall_eq]
    exact ⟨rfl, rfl⟩
  · rw [State.setCall_eq]
    exact ⟨rfl, rfl⟩

/-- A REFUSE with no TAKE held changes its lane and the log alone (R125, R126). -/
theorem State.decideRefuse_recorded {s : State} {l : LaneId} (ht : (s.lane l).takeHeld = false) (p : Progress)
    (r : Reason) (d : Option Nat) : Recorded s (s.decideRefuse l p r d) := by
  rw [State.decideRefuse_of ht]
  dsimp only
  split
  · exact Recorded.trans (t := s.setLane l _) ⟨rfl, rfl, rfl, rfl⟩ (State.askRefusal_recorded _ _ _)
  · exact ⟨rfl, rfl, rfl, rfl⟩

section
variable {s : State} {l : LaneId} (ht : (s.lane l).takeHeld = false)
include ht

theorem State.decideRefuse_decided (p : Progress) (r : Reason) (d : Option Nat) :
    Decided s (s.decideRefuse l p r d) l (.refused (p.refused r d)) := by
  have lane : (s.decideRefuse l p r d).lane l = { s.lane l with
      ctx := .refused (p.refused r d)
      stats := { (s.lane l).stats with refused := bump (s.lane l).stats.refused } } := by
    rw [State.decideRefuse_of ht]
    dsimp only
    split
    · rw [State.askRefusal_lane, State.setLane_lane]
    · rw [State.setLane_lane]
  have recorded := State.decideRefuse_recorded ht p r d
  exact ⟨by rw [lane], by rw [lane]; exact ht, by rw [lane], recorded.deny, recorded.port⟩

theorem State.decideOffer_decided (o : Offer) : Decided s (s.decideOffer l o) l (.offer o) := by
  rw [State.decideOffer_of ht]
  exact ⟨by rw [State.setLane_lane], by rw [State.setLane_lane]; exact ht, by rw [State.setLane_lane], rfl, rfl⟩

theorem State.decidePlace_decided {e : Evaluation} {flags : DenyFlags} {landingId charge : Nat} {cls : FareClass} :
    ∃ v, e.Claimed flags landingId v
      ∧ Decided s (s.decidePlace l e (e.offer flags charge cls landingId)) l v := by
  have claimed {t : State} (lanes : t.lanes = s.lanes) : (t.lane l).takeHeld = false :=
    State.takeHeld_of_lanes lanes ht
  cases hb : (s.lane l).role.boards with
  | none =>
    rw [State.decidePlace_entry hb]
    exact ⟨_, .inl ⟨charge, cls, rfl⟩, State.decideOffer_decided ht _⟩
  | some b =>
    obtain ⟨lanes, -, -⟩ := s.claimPlace_keeps b l
    have list := s.claimPlace_list b l
    cases hc : s.claimPlace b l with
    | mk t refusal =>
      rw [hc] at lanes list
      cases refusal with
      | none =>
        rw [State.decidePlace_granted hb hc]
        exact ⟨_, .inl ⟨charge, cls, rfl⟩, (State.decideOffer_decided (claimed lanes) _).after lanes list.1 list.2⟩
      | some r =>
        rw [State.decidePlace_refused hb hc]
        refine ⟨_, .inr ⟨r, rfl⟩, ?_⟩
        exact (State.decideRefuse_decided (s := t.releaseSlot.releaseUse e.token.id) (claimed lanes) _ r none).after
          lanes list.1 list.2

theorem State.decideClaims_decided (e : Evaluation) (flags : DenyFlags) :
    ∃ v, e.Claimed flags s.station.landing.landingId v ∧ Decided s (s.decideClaims l e flags) l v := by
  unfold State.decideClaims
  split
  · exact ⟨_, .inr ⟨_, rfl⟩, State.decideRefuse_decided ht _ _ _⟩
  · rename_i charge cls _
    split
    · exact ⟨_, .inr ⟨_, rfl⟩, State.decideRefuse_decided ht _ _ _⟩
    · rename_i taps _
      split
      · exact ⟨_, .inr ⟨_, rfl⟩, (State.decideRefuse_decided
          (s := (s.withTaps taps).releaseUse e.token.id) ht _ _ _).after rfl rfl rfl⟩
      · rename_i g _
        obtain ⟨v, claimed, decided⟩ := State.decidePlace_decided (s := (s.withTaps taps).withLog g) ht
          (e := e) (flags := flags) (landingId := s.station.landing.landingId) (charge := charge) (cls := cls)
        exact ⟨v, claimed, decided.after rfl rfl rfl⟩

end

/-! ## A TAKE held while the decision is made -/

/-- The hold of a TAKE over, its answer still to come (R51). -/
def Lane.unheld (x : Lane) : Lane := { x with takeHeld := false }

/-- The hold of a lane's TAKE over. -/
def State.unheld (s : State) (l : LaneId) : State := s.setLane l (s.lane l).unheld

/-- A TAKE of a lane answered (R50). -/
def State.takeAnswered (s : State) (l : LaneId) : State := s.setLane l ((s.lane l).answerTake s.now)

/-- A held TAKE is answered as if it came after the event that ends its hold. -/
theorem State.settle_held {s : State} {l : LaneId} {x : Lane} (h : x.takeHeld = true) :
    (s.setLane l x).settle l = (s.setLane l x.unheld).takeAnswered l := by
  unfold State.settle State.takeAnswered State.updLane
  rw [State.setLane_lane, if_pos h]
  simp only [State.setLane_setLane, State.setLane_lane]
  rfl

/-- An append and a change of a lane need no order. -/
theorem State.appendUnreserved_setLane (s : State) (c : Content) (l : LaneId) (x : Lane) :
    (s.setLane l x).appendUnreserved c = (s.appendUnreserved c).setLane l x := by
  unfold State.appendUnreserved
  rw [State.setLane_log]
  split <;> rfl

theorem State.appendAll_setLane (cs : List Content) (s : State) (l : LaneId) (x : Lane) :
    cs.foldl State.appendUnreserved (s.setLane l x) = (cs.foldl State.appendUnreserved s).setLane l x := by
  induction cs generalizing s with
  | nil => rfl
  | cons c rest ih =>
    simp only [List.foldl_cons, State.appendUnreserved_setLane]
    exact ih _

theorem State.askRefusal_setLane (s : State) (r : Reason) (c : Content) (l : LaneId) (x : Lane) :
    (s.setLane l x).askRefusal r c = (s.askRefusal r c).setLane l x := by
  have taken : (s.setLane l x).takeAsked = s.takeAsked.setLane l x := State.appendAll_setLane _ (s.withAsked []) l x
  unfold State.askRefusal
  split
  · rfl
  · rw [taken, State.appendUnreserved_setLane]

/-- A place claim and a change of a lane need no order. -/
theorem State.claimPlace_setLane (s : State) (b : BerthId) (k l : LaneId) (x : Lane) :
    (s.setLane l x).claimPlace b k = ((s.claimPlace b k).1.setLane l x, (s.claimPlace b k).2) := by
  unfold State.claimPlace
  rw [State.setLane_call]
  split
  · rfl
  · rfl
  · dsimp only
    split <;> simp only [State.setCall_setLane]

/-- The lane a REFUSE decision leaves before a held TAKE is answered (R125). -/
def Lane.refusing (x : Lane) (v : Refused) : Lane :=
  { x with ctx := .refused v, stats := { x.stats with refused := bump x.stats.refused } }

/-- A REFUSE decision: its record, its lane replaced, and the hold of a TAKE ended (R125, R126). -/
theorem State.decideRefuse_setLane (s : State) (l : LaneId) (x : Lane) (p : Progress) (r : Reason) (d : Option Nat) :
    (s.setLane l x).decideRefuse l p r d
      = ((if s.station.landing.logRefusals then s.askRefusal r (.refusal p.arrival.calendar l p.token.id r d)
          else s).setLane l (x.refusing (p.refused r d))).settle l := by
  unfold State.decideRefuse State.updLane
  simp only [State.setLane_lane, State.setLane_setLane, State.setLane_station, State.askRefusal_setLane]
  split <;> rfl

/-- An ADMIT decision: its lane replaced, and the hold of a TAKE ended (R124). -/
theorem State.decideOffer_setLane (s : State) (l : LaneId) (x : Lane) (o : Offer) :
    (s.setLane l x).decideOffer l o = (s.setLane l (x.offered o s.now)).settle l := by
  unfold State.decideOffer State.updLane
  simp only [State.setLane_lane, State.setLane_setLane]
  rfl

/-- A lane replaced by one with no TAKE held has no hold to end. -/
theorem State.settle_setLane (s : State) (l : LaneId) {x : Lane} (h : x.takeHeld = false) :
    (s.setLane l x).settle l = s.setLane l x :=
  State.settle_of (by rw [State.setLane_lane]; exact h)

section
variable {s : State} {l : LaneId} (ht : (s.lane l).takeHeld = true)
include ht

theorem State.decideRefuse_held (p : Progress) (r : Reason) (d : Option Nat) :
    s.decideRefuse l p r d = ((s.unheld l).decideRefuse l p r d).takeAnswered l := by
  have held := s.decideRefuse_setLane l (s.lane l) p r d
  rw [State.setLane_self] at held
  rw [held, State.settle_held (x := (s.lane l).refusing (p.refused r d)) ht, State.unheld, State.decideRefuse_setLane,
    State.settle_setLane _ l rfl]
  rfl

theorem State.decideOffer_held (o : Offer) : s.decideOffer l o = ((s.unheld l).decideOffer l o).takeAnswered l := by
  have held := s.decideOffer_setLane l (s.lane l) o
  rw [State.setLane_self] at held
  rw [held, State.settle_held (x := (s.lane l).offered o s.now) ht, State.unheld, State.decideOffer_setLane,
    State.settle_setLane _ l rfl]
  rfl

theorem State.decidePlace_held (e : Evaluation) (o : Offer) :
    s.decidePlace l e o = ((s.unheld l).decidePlace l e o).takeAnswered l := by
  have unheld : (s.unheld l).lane l = (s.lane l).unheld := s.setLane_lane l _
  cases hb : (s.lane l).role.boards with
  | none =>
    rw [State.decidePlace_entry hb, State.decidePlace_entry (s := s.unheld l) (by rw [unheld]; exact hb)]
    exact State.decideOffer_held ht o
  | some b =>
    have hb' : ((s.unheld l).lane l).role.boards = some b := by rw [unheld]; exact hb
    obtain ⟨lanes, -, -⟩ := s.claimPlace_keeps b l
    have claim := s.claimPlace_setLane b l l (s.lane l).unheld
    cases hc : s.claimPlace b l with
    | mk t refusal =>
      rw [hc] at lanes claim
      have lane : t.lane l = s.lane l := by simp only [State.lane, show t.lanes = s.lanes from lanes]
      have claim : (s.unheld l).claimPlace b l = (t.unheld l, refusal) := by
        rw [State.unheld, State.unheld, lane]; exact claim
      cases refusal with
      | none =>
        rw [State.decidePlace_granted hb hc, State.decidePlace_granted hb' claim]
        exact State.decideOffer_held (lane ▸ ht) o
      | some r =>
        rw [State.decidePlace_refused hb hc, State.decidePlace_refused hb' claim]
        exact State.decideRefuse_held (s := t.releaseSlot.releaseUse e.token.id) (lane ▸ ht) _ r none

theorem State.decideClaims_held (e : Evaluation) (flags : DenyFlags) :
    s.decideClaims l e flags = ((s.unheld l).decideClaims l e flags).takeAnswered l := by
  have taps : (s.unheld l).taps = s.taps := rfl
  have log : (s.unheld l).log = s.log := rfl
  cases hk : chargeOf e s.taps with
  | error r =>
    rw [State.decideClaims_charge hk, State.decideClaims_charge (s := s.unheld l) hk]
    exact State.decideRefuse_held ht _ r none
  | ok charge =>
    obtain ⟨charge, cls⟩ := charge
    cases hu : tapClaim s.taps e.token e.base with
    | error r =>
      rw [State.decideClaims_use hk hu, State.decideClaims_use (s := s.unheld l) hk hu]
      exact State.decideRefuse_held ht _ r none
    | ok taps =>
      by_cases hl : s.log.reserve < 1024 - s.log.records.length
      · rw [State.decideClaims_place hk hu hl, State.decideClaims_place (s := s.unheld l) hk hu hl]
        exact State.decidePlace_held (s := (s.withTaps taps).withLog { s.log with reserve := s.log.reserve + 1 }) ht e _
      · rw [State.decideClaims_slot hk hu hl, State.decideClaims_slot (s := s.unheld l) hk hu hl]
        exact State.decideRefuse_held (s := s.withTaps (tapRelease taps e.token.id)) ht _ .logFull none

theorem State.applyPolicy_held (e : Evaluation) :
    s.applyPolicy l e = ((s.unheld l).applyPolicy l e).takeAnswered l := by
  cases hp : s.station.landing.failPolicy with
  | opened =>
    rw [State.applyPolicy_opened hp, State.applyPolicy_opened (s := s.unheld l) hp]
    exact State.decideClaims_held ht e _
  | closed =>
    rw [State.applyPolicy_closed hp, State.applyPolicy_closed (s := s.unheld l) hp]
    exact State.decideRefuse_held ht _ _ _

end

/-! ## The verdict deadline -/

/-- What the verdict deadline leaves to the decision, whether a TAKE is held or not (R118). -/
theorem State.unheld_counted (s : State) (l : LaneId) :
    ((s.withdrawLookup l).countLane l fun x => { x with deadlineDecisions := bump x.deadlineDecisions }).unheld l
      = s.deadlineTaken l := by
  unfold State.unheld State.countLane State.updLane State.deadlineTaken
  rw [State.setLane_setLane, State.setLane_lane, (s.withdrawLookup_aside l).lane]
  rfl

theorem State.deadlineTaken_lane (s : State) (l : LaneId) :
    (s.deadlineTaken l).lane l = { s.lane l with
      takeHeld := false
      stats := { (s.lane l).stats with deadlineDecisions := bump (s.lane l).stats.deadlineDecisions } } :=
  State.setLane_lane _ l _

theorem State.deadlineTaken_other (s : State) {k l : LaneId} (h : k ≠ l) : (s.deadlineTaken l).lane k = s.lane k :=
  (State.setLane_other _ _ h).trans ((s.withdrawLookup_aside l).lane k)

theorem State.deadlineTaken_held (s : State) (l : LaneId) : ((s.deadlineTaken l).lane l).takeHeld = false := by
  rw [State.deadlineTaken_lane]

theorem State.deadlineTaken_landing (s : State) (l : LaneId) :
    (s.deadlineTaken l).station.landing = s.station.landing := (s.withdrawLookup_quiet l).landing

section
variable {s : State} {l : LaneId} {e : Evaluation} {deadline : Nat} (hr : s.keep.run = .running)
  (hw : (s.lane l).ctx = .waiting e deadline) (hd : deadline ≤ s.now)
include hr hw hd

theorem exec_verdictDeadline_policy :
    exec (.verdictDeadline l) s = .next (((s.withdrawLookup l).countLane l fun x =>
      { x with deadlineDecisions := bump x.deadlineDecisions }).applyPolicy l e) := by
  refine congrArg _ ((State.whenRunning_of hr _).trans ?_)
  simp only [hw, if_pos hd]

/-- With no TAKE held the fail policy's decision is the whole event (R118). -/
theorem exec_verdictDeadline_unheld (ht : (s.lane l).takeHeld = false) :
    exec (.verdictDeadline l) s = .next ((s.deadlineTaken l).applyPolicy l e) := by
  have unheld : (s.deadlineTaken l) = (s.withdrawLookup l).countLane l fun x =>
      { x with deadlineDecisions := bump x.deadlineDecisions } := by
    unfold State.deadlineTaken State.countLane State.updLane
    rw [(s.withdrawLookup_aside l).lane, ← ht]
  rw [exec_verdictDeadline_policy hr hw hd, unheld]

/-- A held TAKE is answered after the fail policy's decision (R51, R118). -/
theorem exec_verdictDeadline_held (ht : (s.lane l).takeHeld = true) :
    exec (.verdictDeadline l) s = .next (((s.deadlineTaken l).applyPolicy l e).takeAnswered l) := by
  rw [exec_verdictDeadline_policy hr hw hd, State.applyPolicy_held, State.unheld_counted]
  rw [State.countLane, State.updLane_lane, (s.withdrawLookup_aside l).lane]
  exact ht

end

/-- What the verdict deadline leaves outside its lane's context (R118, R154). -/
structure DeadlineActed (s t : State) (l : LaneId) : Prop where
  counted : (t.lane l).stats.deadlineDecisions = bump (s.lane l).stats.deadlineDecisions
  queue : t.deny.queue = s.deny.queue.filter fun q => decide (q.lane ≠ l)
  port : t.port = (s.withdrawLookup l).port
  takeHeld : (t.lane l).takeHeld = false
  other : ∀ k, k ≠ l → t.lane k = s.lane k

theorem Lane.answerTake_stats (x : Lane) (now : Nat) :
    (x.answerTake now).stats = x.stats ∧ (x.answerTake now).takeHeld = x.takeHeld := by
  unfold Lane.answerTake
  split <;> exact ⟨rfl, rfl⟩

/-- An answered TAKE leaves what the deadline counted. -/
theorem DeadlineActed.takeAnswered {s t : State} {l : LaneId} (h : DeadlineActed s t l) :
    DeadlineActed s (t.takeAnswered l) l := by
  obtain ⟨stats, held⟩ := (t.lane l).answerTake_stats t.now
  have lane : (t.takeAnswered l).lane l = (t.lane l).answerTake t.now := t.setLane_lane l _
  exact ⟨by rw [lane, stats, h.counted], h.queue, h.port, by rw [lane, held, h.takeHeld],
    fun k hk => (t.setLane_other _ hk).trans (h.other k hk)⟩

/-- The fail policy's verdict (R117): LIST_UNAVAILABLE under CLOSED, that of the claims under OPEN. -/
def State.PolicyVerdict (s : State) (e : Evaluation) (verdict : Context) : Prop :=
  (s.station.landing.failPolicy = .closed → verdict = .refused ((e.progress .clear).refused .listUnavailable none))
  ∧ (s.station.landing.failPolicy = .opened → e.Claimed .unchecked s.station.landing.landingId verdict)

theorem State.applyPolicy_decided {s : State} {l : LaneId} (ht : (s.lane l).takeHeld = false) (e : Evaluation) :
    ∃ v, s.PolicyVerdict e v ∧ Decided s (s.applyPolicy l e) l v := by
  cases hp : s.station.landing.failPolicy with
  | opened =>
    rw [State.applyPolicy_opened hp]
    obtain ⟨v, claimed, decided⟩ := State.decideClaims_decided ht e .unchecked
    exact ⟨v, ⟨fun hc => absurd (hp.symm.trans hc) (by simp), fun _ => claimed⟩, decided⟩
  | closed =>
    rw [State.applyPolicy_closed hp]
    exact ⟨_, ⟨fun _ => rfl, fun ho => absurd (hp.symm.trans ho) (by simp)⟩, State.decideRefuse_decided ht _ _ _⟩

/-- The fail policy decides the lane whose deadline was taken. -/
theorem State.deadlineTaken_decided (s : State) (l : LaneId) (e : Evaluation) :
    ∃ v, s.PolicyVerdict e v ∧ (((s.deadlineTaken l).applyPolicy l e).lane l).ctx = v
      ∧ DeadlineActed s ((s.deadlineTaken l).applyPolicy l e) l := by
  have held := s.deadlineTaken_held l
  obtain ⟨v, policy, decided⟩ := State.applyPolicy_decided held e
  refine ⟨v, ?_, decided.ctx, ?_, ?_, decided.port, decided.takeHeld, fun k hk =>
    ((State.applyPolicy_evaluated held e).other k hk).trans (s.deadlineTaken_other hk)⟩
  · simpa only [State.PolicyVerdict, s.deadlineTaken_landing l] using policy
  · rw [decided.counted, State.deadlineTaken_lane]
  · rw [decided.deny]
    exact s.withdrawLookup_queue l

theorem State.PolicyVerdict.not_waiting {s : State} {e e' : Evaluation} {v : Context} {d : Nat}
    (h : s.PolicyVerdict e v) : v ≠ .waiting e' d := by
  cases hp : s.station.landing.failPolicy with
  | closed =>
    rw [h.1 hp]
    simp
  | opened => rcases h.2 hp with ⟨charge, cls, rfl⟩ | ⟨r, rfl⟩ <;> simp

/-- A TAKE that comes after the fail policy's decision is answered (R50). -/
theorem exec_take_afterDeadline {s : State} (hr : s.keep.run = .running) (l : LaneId) (e : Evaluation) :
    exec (.take l) ((s.deadlineTaken l).applyPolicy l e)
      = .next (((s.deadlineTaken l).applyPolicy l e).takeAnswered l) := by
  obtain ⟨v, policy, ctx, acted⟩ := s.deadlineTaken_decided l e
  have run : ((s.deadlineTaken l).applyPolicy l e).keep.run = .running := by
    rw [(State.applyPolicy_quiet _ l e).keep]
    exact (congrArg Keep.run (s.withdrawLookup_quiet l).keep).trans hr
  exact exec_take_answered run acted.takeHeld fun e' d => by rw [ctx]; exact policy.not_waiting

/-- Settles O30: the fail policy's decision, with the held TAKE answered after it; then the withdrawal by what the queue
and the port hold of the lane. -/
theorem verdictDeadlineAppliesTheFailPolicy : Obligations.VerdictDeadlineAppliesTheFailPolicy := by
  unfold Obligations.VerdictDeadlineAppliesTheFailPolicy
  refine ⟨fun s l e deadline hr hw hd => ?deadline, fun s l queue hqueue => ?withdrawal⟩
  case deadline =>
    have closed (hp : s.station.landing.failPolicy = .closed) : (s.deadlineTaken l).applyPolicy l e
        = (s.deadlineTaken l).decideRefuse l (e.progress .clear) .listUnavailable none :=
      State.applyPolicy_closed (by rw [s.deadlineTaken_landing]; exact hp) l e
    have opened (hp : s.station.landing.failPolicy = .opened) : (s.deadlineTaken l).applyPolicy l e
        = (s.deadlineTaken l).decideClaims l e .unchecked :=
      State.applyPolicy_opened (by rw [s.deadlineTaken_landing]; exact hp) l e
    obtain ⟨v, ⟨vclosed, vopened⟩, ctx, acted⟩ := s.deadlineTaken_decided l e
    refine ⟨?effects, fun decided hdecided => ?same⟩
    case effects =>
      cases ht : (s.lane l).takeHeld with
      | false =>
        refine ⟨_, exec_verdictDeadline_unheld hr hw hd ht, acted.counted, acted.queue, acted.port, acted.takeHeld,
          acted.other, fun hp _ => ⟨ctx.trans (vclosed hp), ?_, ?_⟩, fun _ => nofun, fun hp _ => ?_⟩
        · rw [closed hp, (State.decideRefuse_recorded (s.deadlineTaken_held l) _ _ _).taps]
          exact (s.withdrawLookup_log l).2
        · rw [closed hp, (State.decideRefuse_recorded (s.deadlineTaken_held l) _ _ _).berths]
          exact (s.withdrawLookup_aside l).berths
        · rw [ctx]
          exact vopened hp
      | true =>
        have answered := acted.takeAnswered
        refine ⟨_, exec_verdictDeadline_held hr hw hd ht, answered.counted, answered.queue, answered.port,
          answered.takeHeld, answered.other, fun _ => nofun, fun hp _ => ?_, fun _ => nofun⟩
        rw [State.takeAnswered, State.setLane_lane, Lane.answerTake_refused (ctx.trans (vclosed hp))]
        exact ⟨rfl, rfl⟩
    case same =>
      have policy : decided = (s.deadlineTaken l).applyPolicy l e := by
        rcases hdecided with ⟨hp, rfl⟩ | ⟨hp, rfl⟩
        · exact (closed hp).symm
        · exact (opened hp).symm
      rw [policy, exec_take_afterDeadline hr]
      exact ⟨exec_verdictDeadline_unheld hr hw hd, exec_verdictDeadline_held hr hw hd⟩
  case withdrawal =>
    have without : s.deny.withoutLookup l = { s.deny with queue := queue } := by rw [hqueue]; rfl
    refine ⟨(s.withdrawLookup_queue l).trans hqueue.symm, State.withdrawLookup_none, fun hread page hop => ?reading,
      fun hidle hgrant => ?queued, fun q rest jobWaits hq hl hop hdue t ht => ?granted⟩
    case reading =>
      rw [State.withdrawLookup_ungranted (State.grantedLookup_none (.inl (by simp [hop]))),
        State.removeLookup_reading hread hop, without]
    case queued =>
      rw [State.withdrawLookup_ungranted (State.grantedLookup_none hgrant), State.removeLookup_queued hidle, without]
    case granted =>
      obtain ⟨captured, started⟩ := s.countStart_of q
      rw [State.withdrawLookup_granted hq hl hop hdue, without, ht]
      exact ⟨fun hc => by rw [captured hc], fun hc => by rw [started hc]; rfl⟩

end Sys2Proof.Machine
end

section
/-!
PROOF. The recent-tap table through every step (R131): the events that leave it as it is, those that move it (a claim, a
commit, a release, an unpinning, a restart), then each command and the step. `KeepsTable s t` says that the law is kept.
-/
namespace Sys2Proof.Machine

/-! ## What leaves the table as it is -/

section
variable (s : State) (l : LaneId) (b : BerthId)

@[simp] theorem State.setCall_taps (c : Option Call) : (s.setCall b c).taps = s.taps := by
  rw [State.setCall_eq]; rfl

@[simp] theorem State.updCall_taps (f : Call → Call) : (s.updCall b f).taps = s.taps := by
  unfold State.updCall
  split
  · exact s.setCall_taps b _
  · rfl

@[simp] theorem State.sendHolding_taps (bo : Option BerthId) (m : Holding) :
    (s.sendHolding bo l m).taps = s.taps := by
  cases bo with
  | none => rfl
  | some b => exact s.updCall_taps b _

@[simp] theorem State.appendUnreserved_taps (c : Content) : (s.appendUnreserved c).taps = s.taps :=
  (s.appendUnreserved_recorded c).taps

@[simp] theorem State.takeAsked_taps : s.takeAsked.taps = s.taps :=
  (State.appendAll_recorded s.asked (s.withAsked [])).taps

@[simp] theorem State.settle_taps : (s.settle l).taps = s.taps := by
  unfold State.settle
  split <;> rfl

@[simp] theorem State.cancelEvaluation_taps : (s.cancelEvaluation l).taps = s.taps := (s.withdrawLookup_log l).2

@[simp] theorem State.decideRefuse_taps (p : Progress) (r : Reason) (d : Option Nat) :
    (s.decideRefuse l p r d).taps = s.taps := by
  unfold State.decideRefuse
  rw [State.settle_taps]
  split
  · exact (State.askRefusal_recorded _ _ _).taps
  · rfl

@[simp] theorem State.decideOffer_taps (o : Offer) : (s.decideOffer l o).taps = s.taps := State.settle_taps _ l

@[simp] theorem State.endCall_taps (n : Bool) : (s.endCall b n).taps = s.taps := by
  unfold State.endCall
  split
  · exact State.setCall_taps _ b _
  · rfl

@[simp] theorem State.passAtBerth_taps (f : Call → Call) : (s.passAtBerth b f).taps = s.taps := by
  unfold State.passAtBerth
  split
  · exact s.setCall_taps b _
  · rfl

@[simp] theorem State.tailgate_taps : (s.tailgate l).taps = s.taps := by
  unfold State.tailgate
  dsimp only
  split
  · exact (State.passAtBerth_taps _ _ _).trans (s.appendUnreserved_taps _)
  · exact s.appendUnreserved_taps _

/-! ### The orders to a berth -/

@[simp] theorem State.openCall_taps (a : ArriveArgs) : (s.openCall b a).1.taps = s.taps := by
  unfold State.openCall
  split
  · split
    · rfl
    · dsimp only
      split <;> exact State.setCall_taps _ b _
  · rfl

@[simp] theorem State.takeRampOpen_taps : (s.takeRampOpen b).1.taps = s.taps := by
  unfold State.takeRampOpen
  repeat' split
  all_goals simp only [State.setCall_taps]

@[simp] theorem State.takeDepartReq_taps : (s.takeDepartReq b).1.taps = s.taps := by
  unfold State.takeDepartReq
  repeat' split
  all_goals simp only [State.setCall_taps]

@[simp] theorem State.takeHandover_taps : (s.takeHandover b).1.taps = s.taps := by
  unfold State.takeHandover
  repeat' split
  all_goals simp only [State.endCall_taps]

@[simp] theorem State.takeFromLane_taps (m : Holding) : (s.takeFromLane b l m).taps = s.taps := by
  unfold State.takeFromLane
  repeat' split
  all_goals simp only [State.setCall_taps]

@[simp] theorem State.takeSetCap_taps (cap : Nat) : (s.takeSetCap b cap).1.taps = s.taps := by
  unfold State.takeSetCap
  repeat' split
  all_goals simp only [State.setCall_taps]

@[simp] theorem State.takeClose_taps : (s.takeClose b).1.taps = s.taps := by
  unfold State.takeClose
  repeat' split
  all_goals simp only [State.setCall_taps]

@[simp] theorem State.takeReopen_taps : (s.takeReopen b).1.taps = s.taps := by
  unfold State.takeReopen
  repeat' split
  all_goals simp only [State.setCall_taps]

/-! ### The list flash port and the deny list unit -/

@[simp] theorem State.carryOut_taps : s.carryOut.taps = s.taps := by
  unfold State.carryOut
  split
  · exact (s.grantRead_log _).2
  all_goals rfl

@[simp] theorem State.failJob_taps (op : Option FlashOp) : (s.failJob op).taps = s.taps := by
  unfold State.failJob
  dsimp only
  split <;> rfl

@[simp] theorem State.eraseEnded_taps (good : Bool) : (s.eraseEnded good).taps = s.taps := by
  cases good with
  | false => exact s.failJob_taps none
  | true =>
    show s.eraseGood.taps = s.taps
    unfold State.eraseGood
    dsimp only
    split
    · split <;> rfl
    all_goals rfl

@[simp] theorem State.programEnded_taps (good : Bool) : (s.programEnded good).taps = s.taps := by
  cases good with
  | false => exact s.failJob_taps none
  | true =>
    show s.programGood.taps = s.taps
    unfold State.programGood
    dsimp only
    split
    case h_3 => exact State.appendUnreserved_taps _ _
    case h_4 => split <;> rfl
    all_goals rfl

@[simp] theorem State.actLimit_taps : s.actLimit.taps = s.taps := by
  unfold State.actLimit
  split
  · exact s.failJob_taps _
  · rfl

@[simp] theorem State.suspendEnded_taps (status : SuspendStatus) : (s.suspendEnded status).taps = s.taps := by
  cases status with
  | suspended => exact s.suspendHeld.actLimit_taps
  | ended good =>
    show (if s.port.eraseLimitReached s.now then s.actLimit else s.eraseEnded good).taps = s.taps
    split
    · exact s.actLimit_taps
    · exact s.eraseEnded_taps good

@[simp] theorem State.rebuildRead_taps (res : PageResult) : (s.rebuildRead res).taps = s.taps := by
  unfold State.rebuildRead
  split
  · split <;> rfl
  · rfl

@[simp] theorem State.takeListBegin_taps : s.takeListBegin.1.taps = s.taps := by
  unfold State.takeListBegin
  split
  case h_4 | h_5 => split <;> rfl
  all_goals rfl

@[simp] theorem State.addToList_taps (es : List DenyEntry) : (s.addToList es).1.taps = s.taps := by
  unfold State.addToList
  dsimp only
  split
  case h_3 => rfl
  all_goals split <;> rfl

@[simp] theorem State.takeListCommit_taps : s.takeListCommit.1.taps = s.taps := by
  unfold State.takeListCommit
  repeat' split
  all_goals rfl

@[simp] theorem State.takeDrop_taps (a : DropArgs) : (s.takeDrop a).1.taps = s.taps := by
  unfold State.takeDrop
  repeat' split
  all_goals rfl

/-! ### The hold and the starts -/

@[simp] theorem State.enterHold_taps : s.enterHold.taps = s.taps := by
  unfold State.enterHold
  split <;> rfl

@[simp] theorem State.restartRest_taps : s.restartRest.taps = s.taps := by
  unfold State.restartRest
  dsimp only
  split <;> split <;> rfl

@[simp] theorem State.afterImage_taps (img : Option SettingsCopy) : (s.afterImage img).taps = s.taps := by
  cases img <;> rfl

@[simp] theorem State.afterContent_taps (pages : List Page) : (s.afterContent pages).taps = s.taps := by
  unfold State.afterContent
  split
  · rfl
  · exact s.afterImage_taps _

@[simp] theorem State.finishCold_taps (a c : Option Nat) (op : Option FlashOp) :
    (s.finishCold a c op).taps = s.taps := rfl

@[simp] theorem State.finishUnread_taps (op : Option FlashOp) : (s.finishUnread op).taps = s.taps :=
  s.countUnread.finishCold_taps none none op

@[simp] theorem State.coldRead_taps (res : PageResult) (stage : ColdStage) :
    (s.coldRead res stage).taps = s.taps := by
  cases stage with
  | imageHeader =>
    show (if imageHeaderValid res then s.afterContent [] else s.afterImage none).taps = s.taps
    split
    · exact s.afterContent_taps _
    · exact s.afterImage_taps _
  | imageContent pages =>
    cases res with
    | good p => exact s.afterContent_taps _
    | erased | unreadable => exact s.afterImage_taps _
  | bankHeaderB a => exact s.finishCold_taps _ _ _
  | flashReset _ | bankHeaderA => rfl

end

/-! ## What moves the table -/

/-- From `s` to `t` the law of the recent-tap table is kept (R131). -/
def KeepsTable (s t : State) : Prop := TapTableLaw s → TapTableLaw t

namespace KeepsTable

theorem refl (s : State) : KeepsTable s s := id

theorem trans {s t u : State} (h : KeepsTable s t) (k : KeepsTable t u) : KeepsTable s u := k ∘ h

/-- A table that stands. -/
theorem of_eq {s t : State} (h : t.taps = s.taps) : KeepsTable s t := fun k =>
  (tapTableLaw_iff t).mpr (h ▸ (tapTableLaw_iff s).mp k)

/-- The law reads the table alone. -/
theorem of_taps {s t : State} (h : tapsOk s.taps → tapsOk t.taps) : KeepsTable s t := h

end KeepsTable

/-- Uses released one after another (R140). -/
theorem tapsOk.releases {t : List TapEntry} (h : tapsOk t) (ids : List TokenId) : tapsOk (ids.foldl tapRelease t) := by
  induction ids generalizing t with
  | nil => exact h
  | cons id rest ih => exact ih (h.release id)

/-- Holdings given back release their uses. -/
theorem GaveBack.keepsTable {cs : List Content} {n : Nat} {ids : List TokenId} {s t : State}
    (h : GaveBack cs n ids s t) : KeepsTable s t :=
  .of_taps fun k => h.taps ▸ k.releases ids

section
variable (s : State) (l : LaneId) (b : BerthId)

theorem State.releaseHoldings_keepsTable (r : VoidReason) : KeepsTable s (s.releaseHoldings b r) :=
  (State.endBerthHoldings_gaveBack b r LaneId.list_nodup s).keepsTable.trans (.of_eq (State.updCall_taps _ b _))

theorem State.endEveryHolding_keepsTable (ls : List LaneId) : KeepsTable s (s.endEveryHolding ls) := by
  induction ls generalizing s with
  | nil => exact .refl s
  | cons l rest ih => exact (s.endHoldings_gaveBack l .restart).keepsTable.trans (ih _)

/-- A commit hands the table its use (R78, R137). -/
theorem State.commitEntry_keepsTable (e : Entry) (rest : List Entry) : KeepsTable s (s.commitEntry l e rest) := by
  refine .of_taps fun h => ?_
  unfold State.commitEntry
  rw [State.sendHolding_taps]
  exact h.commit e.tokenId _ _

theorem State.takePassage_keepsTable : KeepsTable s (s.takePassage l) := by
  unfold State.takePassage State.matchPassage
  split
  · exact .refl s
  · exact .of_eq (s.passAtBerth_taps _ _)
  · exact .of_eq (s.passAtBerth_taps _ _)
  all_goals
    split
    · exact s.commitEntry_keepsTable l _ _
    · exact .of_eq (s.tailgate_taps l)

/-- A change of day unpins entries, or waits for the end of a restart (R139, R216). -/
theorem State.handDay_keepsTable (day : Nat) : KeepsTable s (s.handDay day) := by
  unfold State.handDay
  split
  · exact .of_taps fun h => h.unpin day
  · exact .refl s

theorem State.handWaitingDay_keepsTable : KeepsTable s s.handWaitingDay := by
  unfold State.handWaitingDay
  split
  · exact .of_taps fun h => h.unpin _
  · exact .refl s

/-! ### Decisions -/

/-- A refused place gives its held use back (R123). -/
theorem State.decidePlace_keepsTable (e : Evaluation) (o : Offer) : KeepsTable s (s.decidePlace l e o) := by
  unfold State.decidePlace
  split
  · exact .of_eq (s.decideOffer_taps l o)
  · rename_i b _
    have claimed := (s.claimPlace_keeps b l).2.2
    split <;> rename_i u hc <;> rw [hc] at claimed
    · exact .of_eq ((State.decideOffer_taps _ l o).trans claimed)
    · refine (KeepsTable.of_eq claimed).trans (.of_taps fun h => ?_)
      rw [State.decideRefuse_taps]
      exact h.release e.token.id

/-- The claims of a decision (R120 to R123): a granted use stands in the table, or was given back. -/
theorem State.decideClaims_keepsTable (e : Evaluation) (flags : DenyFlags) :
    KeepsTable s (s.decideClaims l e flags) := by
  unfold State.decideClaims
  split
  · exact .of_eq (s.decideRefuse_taps l _ _ _)
  · split
    · exact .of_eq (s.decideRefuse_taps l _ _ _)
    · rename_i taps hclaim
      have claimed : KeepsTable s (s.withTaps taps) := .of_taps fun h => h.claim hclaim
      split
      · refine claimed.trans (.of_taps fun h => ?_)
        rw [State.decideRefuse_taps]
        exact h.release e.token.id
      · rename_i g _
        exact claimed.trans (State.decidePlace_keepsTable ((s.withTaps taps).withLog g) l _ _)

theorem State.applyPolicy_keepsTable (e : Evaluation) : KeepsTable s (s.applyPolicy l e) := by
  unfold State.applyPolicy
  split
  · exact s.decideClaims_keepsTable l e _
  · exact .of_eq (s.decideRefuse_taps l _ _ _)

theorem State.decideLookup_keepsTable (e : Evaluation) (o : LookupOutcome) :
    KeepsTable s (s.decideLookup l e o) := by
  unfold State.decideLookup
  split
  · exact s.decideClaims_keepsTable l e _
  · exact s.decideClaims_keepsTable l e _
  · exact .of_eq (s.decideRefuse_taps l _ _ _)
  · exact s.applyPolicy_keepsTable l e

theorem State.clearForTap_keepsTable : KeepsTable s (s.clearForTap l) := by
  unfold State.clearForTap
  split
  · exact .refl s
  · exact .of_eq (s.cancelEvaluation_taps l)
  · exact (s.dropOffer_gaveBack l _).keepsTable
  · exact .refl s

theorem State.startEvaluation_keepsTable (t : TokenRecord) : KeepsTable s (s.startEvaluation l t) := by
  unfold State.startEvaluation State.denyCheck
  split
  · exact .of_eq (s.decideRefuse_taps l _ _ _)
  · split
    · exact s.applyPolicy_keepsTable l _
    · exact s.decideClaims_keepsTable l _ _
    · exact .refl s

theorem State.takeTap_keepsTable (t : TokenRecord) : KeepsTable s (s.takeTap l t) :=
  (State.clearForTap_keepsTable (s.updLane l fun x =>
    { x with stats := { x.stats with taps := bump x.stats.taps }, reply := some .tapStarted }) l).trans
      (State.startEvaluation_keepsTable _ l t)

/-- A lookup's outcome decides the evaluation that waits for it (R116). -/
theorem State.handOutcome_keepsTable (o : LookupOutcome) : KeepsTable s (s.handOutcome l o) := by
  unfold State.handOutcome
  split
  · exact s.decideLookup_keepsTable l _ o
  all_goals exact .refl s

theorem State.lookupRead_keepsTable (res : PageResult) : KeepsTable s (s.lookupRead res) := by
  unfold State.lookupRead
  split
  · rename_i rest _
    split
    · exact State.handOutcome_keepsTable (s.withQueue rest) _ _
    · exact .refl s
  · exact .refl s

theorem State.readEnded_keepsTable (res : PageResult) (who : Requester) : KeepsTable s (s.readEnded res who) := by
  cases who with
  | lookup => exact (s.lookupRead_keepsTable res).trans (.of_eq (State.actLimit_taps _))
  | withdrawn => exact .of_eq s.actLimit_taps
  | rebuild => exact .of_eq (s.rebuildRead_taps res)
  | startUp => exact .refl s

/-! ### The orders that end holdings or set the clock -/

theorem State.takeArrive_keepsTable (a : ArriveArgs) : KeepsTable s (s.takeArrive b a).1 := by
  unfold State.takeArrive State.replaceVessel
  split
  · exact .of_eq (s.openCall_taps b a)
  · split
    · split
      · exact .of_eq (s.setCall_taps b _)
      · split
        · exact (s.releaseHoldings_keepsTable b .linkLost).trans
            (.of_eq ((State.openCall_taps _ b a).trans (State.endCall_taps _ b true)))
        · exact .refl s
    · split <;> exact .refl s

theorem State.takeVacate_keepsTable : KeepsTable s (s.takeVacate b).1 := by
  unfold State.takeVacate
  split
  · exact .refl s
  · exact (s.releaseHoldings_keepsTable b .forced).trans (.of_eq (State.endCall_taps _ b true))

theorem State.takeClear_keepsTable : KeepsTable s (s.takeClear l).1 :=
  .of_taps fun h => (s.clearContext_cleared l).voidAll.taps ▸ h.releases _

theorem State.takeSetClock_keepsTable (a : ClockArgs) : KeepsTable s (s.takeSetClock a).1 := by
  unfold State.takeSetClock
  split
  · refine KeepsTable.trans ?_ (.of_eq (State.appendUnreserved_taps _ _))
    split
    · exact .refl s
    · refine KeepsTable.trans ?_ (State.handDay_keepsTable _ a.day)
      exact .refl s
  · exact .refl s

/-! ### The restarts -/

/-- The table's own part of a warm restart follows the lanes' (R68, R144). -/
theorem State.endRestartHoldings_keepsTable : KeepsTable s s.endRestartHoldings := by
  refine (s.endEveryHolding_keepsTable LaneId.list).trans (.of_taps fun h => ?_)
  unfold State.endRestartHoldings
  simp only [State.withTaps_taps, State.takeAllInFlight, State.updCall_taps, State.withLanes_taps]
  exact h.restart

theorem State.warmStep_keepsTable (next : WarmStage) : KeepsTable s (s.warmStep next) := by
  cases next with
  | suspendCalls => exact .of_eq ((State.updCall_taps _ _ _).trans (State.updCall_taps _ _ _))
  | endHoldings => exact s.endRestartHoldings_keepsTable.trans (.of_eq (State.withKeep_taps s.endRestartHoldings _))
  | restartRest => exact .of_eq ((State.withKeep_taps s.restartRest _).trans s.restartRest_taps)
  | record => exact .of_eq ((State.appendUnreserved_taps _ _).trans s.takeAsked_taps)
  | finish => exact s.handWaitingDay_keepsTable.trans (.refl _)

/-- A cold start begins with an empty table (R130, R220). -/
theorem State.beginCold_keepsTable (cause : ResetCause) : KeepsTable s (s.beginCold cause) :=
  .of_taps fun _ => ⟨Nat.zero_le _, List.nodup_nil⟩

theorem State.beginRestart_keepsTable (begun : ResetCause) : KeepsTable s (s.beginRestart begun) := by
  unfold State.beginRestart
  split
  · exact .refl s
  · exact s.beginCold_keepsTable _

theorem State.release_keepsTable : KeepsTable s s.release := by
  unfold State.release
  split
  · split
    · exact s.beginRestart_keepsTable _
    · exact .refl s
  all_goals exact .refl s

end

end Sys2Proof.Machine
end

section
/-!
PROOF. Every command and every step keeps the law of the recent-tap table (R131).
-/
namespace Sys2Proof.Machine

/-! ## How an event reaches its block -/

/-- The outcome of a command is a state that keeps the law of the table. -/
def OutcomeKeepsTable (s : State) (o : Host.Outcome State Fault Refusal) : Prop := ∀ t, o = .next t → KeepsTable s t

namespace KeepsTable

theorem next {s u : State} (h : KeepsTable s u) : OutcomeKeepsTable s (.next u) := fun t ht => by
  cases ht; exact h

theorem whenRunning {s : State} {f : State → State} (h : KeepsTable s (f s)) :
    OutcomeKeepsTable s (.next (s.whenRunning f)) := by
  refine next ?_
  unfold State.whenRunning
  split
  · exact h
  · exact .refl s

theorem onLane {s : State} {l : LaneId} {f : State → State} (h : KeepsTable s (f s)) :
    OutcomeKeepsTable s (.next (s.onLane l f)) := by
  refine whenRunning ?_
  split
  · exact .refl s
  · exact h

theorem onDock {α : Type} {s : State} {b : BerthId} {fields : Fields α} {f : α → State → State × DockReply}
    (h : ∀ (a : α) (t : State), KeepsTable t (f a t).1) : OutcomeKeepsTable s (.next (s.onDock b fields f)) := by
  have heard : KeepsTable s (s.updCall b fun c => c.heard s.now) := .of_eq (s.updCall_taps b _)
  refine whenRunning ?_
  cases fields with
  | misfit => exact heard
  | fit a => exact heard.trans (h a _)

theorem onTransfer {s : State} {f : State → State} (h : KeepsTable s.collect (f s.collect)) :
    OutcomeKeepsTable s (.next (s.onTransfer f)) := by
  refine next ?_
  unfold State.onTransfer
  split
  · exact h
  all_goals exact .refl s

theorem onStation {α : Type} {s : State} {cmd : Command} {fields : Fields α} {f : α → State → State × Answer}
    (h : ∀ (a : α) (t : State), KeepsTable t (f a t).1) :
    OutcomeKeepsTable s (.next (s.onStation cmd fields f)) := by
  refine onTransfer ?_
  cases fields with
  | misfit => exact .refl s
  | fit a => exact h a _

theorem onLaneCode {code : Nat} {s : State} {f : LaneId → State × Answer} (h : ∀ l, KeepsTable s (f l).1) :
    KeepsTable s (Machine.onLaneCode code s f).1 := by
  unfold Machine.onLaneCode
  split
  · exact h _
  · exact .refl s

theorem onBerthCode {code : Nat} {s : State} {f : BerthId → State × Answer} (h : ∀ b, KeepsTable s (f b).1) :
    KeepsTable s (Machine.onBerthCode code s f).1 := by
  unfold Machine.onBerthCode
  split
  · exact h _
  · exact .refl s

end KeepsTable

section
variable (s : State) (l : LaneId) (b : BerthId)

/-! ## The lanes and the berths -/

theorem execTap_keepsTable (fields : List Byte) : OutcomeKeepsTable s (execTap l fields s) := by
  refine .onLane ?_
  split
  · exact .refl s
  · exact s.takeTap_keepsTable l _

theorem execTake_keepsTable : OutcomeKeepsTable s (execTake l s) := by
  refine .onLane ?_
  split <;> exact .refl s

theorem execWroteOk_keepsTable : OutcomeKeepsTable s (execWroteOk l s) := by
  refine .onLane ?_
  split <;> exact .refl s

theorem execWroteFailed_keepsTable : OutcomeKeepsTable s (execWroteFailed l s) := by
  refine .onLane ?_
  split
  · exact .refl s
  · exact (s.voidEntry_gaveBack l _ _ .writeFailed).keepsTable

theorem execSilenceDeadline_keepsTable : OutcomeKeepsTable s (execSilenceDeadline b s) := by
  refine .whenRunning (.of_eq ?_)
  repeat' split
  all_goals simp only [State.setCall_taps]

theorem execClosingDeadline_keepsTable : OutcomeKeepsTable s (execClosingDeadline b s) := by
  refine .whenRunning ?_
  split
  · exact .refl s
  · split
    · exact (s.releaseHoldings_keepsTable b .closed).trans (.of_eq (State.updCall_taps _ b _))
    · exact .refl s

theorem execRawLevelChange_keepsTable (level : Level) : OutcomeKeepsTable s (execRawLevelChange l level s) := by
  refine .next ?_
  repeat' split
  all_goals exact .refl s

theorem execDebounceDeadline_keepsTable : OutcomeKeepsTable s (execDebounceDeadline l s) := by
  refine .whenRunning ?_
  split
  · split
    · exact .refl s
    · dsimp only
      split
      · exact .refl s
      · exact State.takePassage_keepsTable (s.updLane l fun x => { x with cond := x.cond.acceptClear }) l
  · exact .refl s

theorem execBlockedDeadline_keepsTable : OutcomeKeepsTable s (execBlockedDeadline l s) := by
  refine .whenRunning ?_
  split <;> exact .refl s

theorem execVerdictDeadline_keepsTable : OutcomeKeepsTable s (execVerdictDeadline l s) := by
  refine .whenRunning ?_
  split
  · split
    · refine KeepsTable.trans ?_ (State.applyPolicy_keepsTable _ l _)
      exact .of_eq (s.withdrawLookup_log l).2
    · exact .refl s
  all_goals exact .refl s

theorem execTakeDeadline_keepsTable : OutcomeKeepsTable s (execTakeDeadline l s) := by
  refine .whenRunning ?_
  split
  · split
    · exact (s.dropOffer_gaveBack l _).keepsTable
    · exact .refl s
  all_goals exact .refl s

theorem execWriteDeadline_keepsTable : OutcomeKeepsTable s (execWriteDeadline l s) := by
  refine .whenRunning ?_
  repeat' split
  all_goals exact .refl s

theorem execPassageDeadline_keepsTable (which : WhichEntry) :
    OutcomeKeepsTable s (execPassageDeadline l which s) := by
  refine .whenRunning ?_
  split
  · split
    · exact (s.voidEntry_gaveBack l _ _ .noPassage).keepsTable
    · exact .refl s
  · exact .refl s

theorem execCalendarSecond_keepsTable : OutcomeKeepsTable s (execCalendarSecond s) := by
  refine .next ?_
  split
  · rename_i t _
    split
    · dsimp only
      split
      · exact .refl s
      · exact State.handDay_keepsTable (s.withClock (s.clock.takeSecond t)) _
    · exact .refl s
  · exact .refl s

/-! ## The list flash port -/

theorem execPortGrant_keepsTable : OutcomeKeepsTable s (execPortGrant s) := by
  refine .whenRunning ?_
  split
  · exact .refl s
  · exact .of_eq s.arbitrate.carryOut_taps

theorem execSuspendIssue_keepsTable : OutcomeKeepsTable s (execSuspendIssue s) := by
  refine .whenRunning ?_
  repeat' split
  all_goals exact .refl s

theorem execSuspendEnd_keepsTable (status : SuspendStatus) : OutcomeKeepsTable s (execSuspendEnd status s) := by
  refine .whenRunning ?_
  split
  · exact .of_eq (s.suspendEnded_taps status)
  · exact .refl s

theorem execPageReadEnd_keepsTable (reads : FlashReads) : OutcomeKeepsTable s (execPageReadEnd reads s) := by
  refine .next ?_
  split
  · exact State.readEnded_keepsTable (s.endRead reads) _ _
  · exact .of_eq ((s.endRead reads).coldRead_taps _ _)
  · exact .refl s

theorem execPageProgramEnd_keepsTable (good : Bool) : OutcomeKeepsTable s (execPageProgramEnd good s) := by
  refine .whenRunning (.of_eq ?_)
  split
  · split
    · exact s.failJob_taps _
    · exact s.programEnded_taps good
  · rfl

theorem execSectorEraseEnd_keepsTable (good : Bool) : OutcomeKeepsTable s (execSectorEraseEnd good s) := by
  refine .whenRunning (.of_eq ?_)
  split
  · split
    · exact s.failJob_taps _
    · exact s.eraseEnded_taps good
  · rfl

theorem execFlashResetEnd_keepsTable : OutcomeKeepsTable s (execFlashResetEnd s) := by
  refine .next (.of_eq ?_)
  split
  case h_3 =>
    split
    · exact s.finishUnread_taps none
    · rfl
  all_goals rfl

theorem execOperationTimeLimit_keepsTable : OutcomeKeepsTable s (execOperationTimeLimit s) := by
  refine .whenRunning (.of_eq ?_)
  split
  · split
    · exact s.failJob_taps _
    · rfl
  case h_2 | h_3 => exact s.actLimit_taps
  all_goals rfl

theorem execFlashReadyTimeout_keepsTable : OutcomeKeepsTable s (execFlashReadyTimeout s) := by
  refine .next (.of_eq ?_)
  split
  · split
    · exact s.finishUnread_taps _
    · rfl
  · rfl

/-! ## The pins, the supplies and RESTART -/

theorem execResetInputAssert_keepsTable : OutcomeKeepsTable s (execResetInputAssert s) := by
  refine .next (.of_eq ?_)
  split
  · rfl
  · exact s.enterHold_taps

theorem execResetInputRelease_keepsTable : OutcomeKeepsTable s (execResetInputRelease s) := by
  refine .next ?_
  split
  · exact State.release_keepsTable (s.withKeep { s.keep with resetInput := false })
  · exact .refl s

theorem execCoreSupplyRise_keepsTable (low : Bool) : OutcomeKeepsTable s (execCoreSupplyRise low s) := by
  refine .next ?_
  split
  · exact .refl s
  · exact State.release_keepsTable
      (s.withKeep { s.keep with coreUp := true, run := if low then .held .powerOn else s.keep.run })

theorem execCoreSupplyFall_keepsTable : OutcomeKeepsTable s (execCoreSupplyFall s) := by
  refine .next (.of_eq ?_)
  split
  · exact s.enterHold_taps
  · rfl

theorem execRestart_keepsTable (fields : Fields Unit) : OutcomeKeepsTable s (execRestart fields s) := by
  refine .onTransfer ?_
  cases fields with
  | misfit => exact .refl s
  | fit => exact State.beginRestart_keepsTable _ _

/-! ## The commands of the station port -/

theorem execReadStats_keepsTable (fields : Fields Bool) : OutcomeKeepsTable s (execReadStats fields s) := by
  refine .onStation fun clear t => ?_
  dsimp only
  split <;> exact .refl t

theorem execSetLane_keepsTable (fields : Fields LaneArgs) : OutcomeKeepsTable s (execSetLane fields s) := by
  refine .onStation fun a t => .onLaneCode fun l => ?_
  unfold State.setRole
  repeat' split
  all_goals exact .refl t

theorem execSetLanding_keepsTable (fields : Fields LandingArgs) : OutcomeKeepsTable s (execSetLanding fields s) := by
  refine .onStation fun a t => ?_
  split <;> exact .refl t

theorem execWriteFare_keepsTable (fields : Fields WriteFareArgs) : OutcomeKeepsTable s (execWriteFare fields s) := by
  refine .onStation fun a t => ?_
  repeat' split
  all_goals exact .refl t

theorem execStagePlan_keepsTable (fields : Fields PlanArgs) : OutcomeKeepsTable s (execStagePlan fields s) := by
  refine .onStation fun a t => .onBerthCode fun b => ?_
  split <;> exact .refl t

theorem execListAdd_keepsTable (fields : Fields (List AddEntry)) : OutcomeKeepsTable s (execListAdd fields s) := by
  refine .onStation fun a t => .of_eq ?_
  split
  · split
    · exact t.addToList_taps _
    · rfl
  · rfl

theorem execStoreSettings_keepsTable (fields : Fields Unit) : OutcomeKeepsTable s (execStoreSettings fields s) := by
  refine .onStation fun _ t => ?_
  split <;> exact .refl t

end

/-! ## The step -/

/-- Every command keeps the law of the table. -/
theorem exec_keepsTable (i : Instr) (s : State) : OutcomeKeepsTable s (exec i s) := by
  cases i with
  | tap l fields => exact execTap_keepsTable s l fields
  | take l => exact execTake_keepsTable s l
  | wroteOk l => exact execWroteOk_keepsTable s l
  | wroteFailed l => exact execWroteFailed_keepsTable s l
  | laneStatus l => exact .onLane (.refl s)
  | laneBadFrame l => exact .onLane (.refl s)
  | laneUnknownMessage l => exact .onLane (.refl s)
  | arrive b fields => exact .onDock fun a t => t.takeArrive_keepsTable b a
  | rampOpen b fields => exact .onDock fun _ t => .of_eq (t.takeRampOpen_taps b)
  | countQuery b fields => exact .onDock fun _ t => .refl t
  | departReq b fields => exact .onDock fun _ t => .of_eq (t.takeDepartReq_taps b)
  | handoverTaken b fields => exact .onDock fun _ t => .of_eq (t.takeHandover_taps b)
  | dockBadFrame b => exact .whenRunning (.refl s)
  | dockUnknownMessage b => exact .onDock fun _ t => .refl t
  | silenceDeadline b => exact execSilenceDeadline_keepsTable s b
  | closingDeadline b => exact execClosingDeadline_keepsTable s b
  | berthCommit b l => exact .whenRunning (.of_eq (s.takeFromLane_taps l b _))
  | berthRelease b l => exact .whenRunning (.of_eq (s.takeFromLane_taps l b _))
  | rawLevelChange l level => exact execRawLevelChange_keepsTable s l level
  | debounceDeadline l => exact execDebounceDeadline_keepsTable s l
  | blockedDeadline l => exact execBlockedDeadline_keepsTable s l
  | verdictDeadline l => exact execVerdictDeadline_keepsTable s l
  | takeDeadline l => exact execTakeDeadline_keepsTable s l
  | writeDeadline l => exact execWriteDeadline_keepsTable s l
  | passageDeadline l which => exact execPassageDeadline_keepsTable s l which
  | calendarSecond => exact execCalendarSecond_keepsTable s
  | readStatus fields => exact .onStation fun _ t => .refl t
  | readStats fields => exact execReadStats_keepsTable s fields
  | setClock fields => exact .onStation fun a t => t.takeSetClock_keepsTable a
  | setLane fields => exact execSetLane_keepsTable s fields
  | setLanding fields => exact execSetLanding_keepsTable s fields
  | writeFare fields => exact execWriteFare_keepsTable s fields
  | readFare fields => exact .onStation fun _ t => .refl t
  | stagePlan fields => exact execStagePlan_keepsTable s fields
  | cancelPlan fields => exact .onStation fun _ t => .onBerthCode fun b => .refl t
  | setCap fields => exact .onStation fun _ t => .onBerthCode fun b => .of_eq (t.takeSetCap_taps b _)
  | closeBerth fields => exact .onStation fun _ t => .onBerthCode fun b => .of_eq (t.takeClose_taps b)
  | reopenBerth fields => exact .onStation fun _ t => .onBerthCode fun b => .of_eq (t.takeReopen_taps b)
  | forceVacate fields => exact .onStation fun _ t => .onBerthCode fun b => t.takeVacate_keepsTable b
  | laneClear fields => exact .onStation fun _ t => .onLaneCode fun l => t.takeClear_keepsTable l
  | listBegin fields => exact .onStation fun _ t => .of_eq t.takeListBegin_taps
  | listAdd fields => exact execListAdd_keepsTable s fields
  | listCommit fields => exact .onStation fun _ t => .of_eq t.takeListCommit_taps
  | logPeek fields => exact .onStation fun _ t => .refl t
  | logDrop fields => exact .onStation fun a t => .of_eq (t.takeDrop_taps a)
  | storeSettings fields => exact execStoreSettings_keepsTable s fields
  | restart fields => exact execRestart_keepsTable s fields
  | rttQuery fields => exact .onStation fun _ t => .refl t
  | emptyFrame => exact .onTransfer (.refl s)
  | stationBadFrame => exact .onTransfer (.refl s)
  | stationUnknownCommand kind => exact .onTransfer (.refl s)
  | portGrant => exact execPortGrant_keepsTable s
  | suspendIssue => exact execSuspendIssue_keepsTable s
  | suspendEnd status => exact execSuspendEnd_keepsTable s status
  | pageReadEnd reads => exact execPageReadEnd_keepsTable s reads
  | pageProgramEnd good => exact execPageProgramEnd_keepsTable s good
  | sectorEraseEnd good => exact execSectorEraseEnd_keepsTable s good
  | flashResetEnd => exact execFlashResetEnd_keepsTable s
  | operationTimeLimit => exact execOperationTimeLimit_keepsTable s
  | resetInputAssert => exact execResetInputAssert_keepsTable s
  | resetInputRelease => exact execResetInputRelease_keepsTable s
  | coreSupplyRise low => exact execCoreSupplyRise_keepsTable s low
  | coreSupplyFall => exact execCoreSupplyFall_keepsTable s
  | retentionSupplyDip => exact KeepsTable.next (.refl s)
  | flashReadyTimeout => exact execFlashReadyTimeout_keepsTable s

/-- One millisecond keeps it (log 2). -/
theorem State.tick_keepsTable (s : State) : KeepsTable s s.tick := by
  unfold State.tick
  split
  · exact .of_eq s.passTime.takeAsked_taps
  · exact .refl s
  · exact s.passTime.warmStep_keepsTable _
  · exact .refl s
  · exact .refl s

/-- Every step keeps it. -/
theorem step_keepsTable {s t : State} (h : step s = .next t) : KeepsTable s t := by
  unfold step at h
  split at h
  · cases h
    exact s.tick_keepsTable
  · rename_i c rest _
    exact exec_keepsTable c (s.withPending rest) t h

/-- Settles O8: every step keeps the law of the recent-tap table. -/
theorem everyStepKeepsTheTapTable : Obligations.EveryStepKeepsTheTapTable := by
  unfold Obligations.EveryStepKeepsTheTapTable
  exact fun s t hs h => step_keepsTable h hs

end Sys2Proof.Machine
end

section
/-!
PROOF. The recent-tap table's events: a claim, a commit and a release, by the entry of the token (R134, R135, R137,
R138, R140).
-/
namespace Sys2Proof.Machine

section
variable {t : List TapEntry} {token : TokenRecord} {base : Nat} {e : TapEntry}

/-! ## A token with an entry -/

theorem tapClaim_held (h : tapFind t token.id = some e) (hh : e.held = true) :
    tapClaim t token base = .error .passback := by
  simp [tapClaim, h, hh]

theorem committedSince_iff (e : TapEntry) (base : Nat) :
    committedSince e base = true ↔ ∃ c, e.commitTime = some c ∧ base ≤ c := by
  unfold committedSince
  cases e.commitTime <;> simp

/-- A use committed at or after the TAP's time (R134). -/
theorem tapClaim_committed (h : tapFind t token.id = some e) (hh : e.held = false) {c : Nat}
    (hc : e.commitTime = some c) (hb : base ≤ c) : tapClaim t token base = .error .passback := by
  simp [tapClaim, h, hh, (committedSince_iff e base).mpr ⟨c, hc, hb⟩]

/-- A use that is free to be held (R134). -/
theorem tapClaim_free (h : tapFind t token.id = some e) (hh : e.held = false)
    (hc : ∀ c, e.commitTime = some c → c < base) :
    tapClaim t token base
      = .ok (tapTouch t { e with held := true, medium := token.medium, pinDay := claimPinDay token }) := by
  have before : committedSince e base = false := Bool.eq_false_iff.mpr fun k => by
    obtain ⟨c, hcommit, hb⟩ := (committedSince_iff e base).mp k
    exact absurd hb (Nat.not_le.mpr (hc c hcommit))
  simp [tapClaim, h, hh, before]

theorem tapCommit_found {id : TokenId} (h : tapFind t id = some e) (a : TableAdmission) (now : Nat) :
    tapCommit t id a now = tapTouch t { e with
      held := false, uses := bumpTo 255 e.uses, last := some a, commitTime := some now
      pinned := judgePin e a.time.day } := by
  simp [tapCommit, h]

/-- A release removes an entry that has counted no use (R140). -/
theorem tapRelease_unused {id : TokenId} (h : tapFind t id = some e) (hu : e.uses = 0) :
    tapRelease t id = tapRemove t id := by
  simp [tapRelease, h, hu]

theorem tapRelease_used {id : TokenId} (h : tapFind t id = some e) (hu : e.uses ≠ 0) :
    tapRelease t id = tapTouch t { e with held := false } := by
  simp [tapRelease, h, hu]

/-! ## A token without an entry -/

theorem tapRelease_unknown {id : TokenId} (h : tapFind t id = none) : tapRelease t id = t := by
  simp [tapRelease, h]

theorem tapClaim_created (h : tapFind t token.id = none) (hl : t.length < 512) :
    tapClaim t token base = .ok (t ++ [newTapEntry token]) := by
  simp [tapClaim, h, hl]

theorem evictable_iff (e : TapEntry) : e.evictable = true ↔ e.held = false ∧ e.pinned = false := by
  simp [TapEntry.evictable]

theorem not_evictable_iff (e : TapEntry) : e.evictable = false ↔ e.held = true ∨ e.pinned = true := by
  cases hh : e.held <;> cases hp : e.pinned <;> simp [TapEntry.evictable, hh, hp]

/-- The oldest evictable entry leaves a full table, those on either side of it close up (R135). -/
theorem tapClaim_evicts (h : tapFind t token.id = none) (hl : 512 ≤ t.length) {older younger : List TapEntry}
    {x : TapEntry} (ht : t = older ++ x :: younger) (hx : x.evictable = true)
    (ho : ∀ y ∈ older, y.evictable = false) :
    tapClaim t token base = .ok (older ++ younger ++ [newTapEntry token]) := by
  have found : t.any TapEntry.evictable = true := List.any_eq_true.mpr ⟨x, by simp [ht], hx⟩
  have evicted : t.eraseP TapEntry.evictable = older ++ younger := by
    rw [ht, List.eraseP_append_right _ fun y hy => by simp [ho y hy], List.eraseP_cons_of_pos hx]
  simp [tapClaim, h, Nat.not_lt.mpr hl, found, evicted]

theorem tapClaim_full (h : tapFind t token.id = none) (hl : 512 ≤ t.length)
    (hn : ∀ y ∈ t, y.evictable = false) : tapClaim t token base = .error .tableFull := by
  have none_found : t.any TapEntry.evictable = false :=
    List.any_eq_false.mpr fun y hy => Bool.eq_false_iff.mp (hn y hy)
  simp [tapClaim, h, Nat.not_lt.mpr hl, none_found]

end

/-- Settles O46, by whether the token has an entry. -/
theorem tapTableTakesClaimsCommitsAndReleases : Obligations.TapTableTakesClaimsCommitsAndReleases := by
  unfold Obligations.TapTableTakesClaimsCommitsAndReleases
  rintro t token base pin rfl
  refine ⟨fun e he => ?known, fun he => ?unknown⟩
  case known =>
    exact ⟨tapClaim_held he, fun c hh => tapClaim_committed he hh, tapClaim_free he, tapCommit_found he,
      tapRelease_unused he, tapRelease_used he⟩
  case unknown =>
    refine ⟨tapRelease_unknown he, ?_⟩
    rintro e rfl
    refine ⟨tapClaim_created he, fun hl => ⟨fun older x younger ht hheld hpin ho => ?evict, fun hn => ?full⟩⟩
    case evict =>
      exact tapClaim_evicts he hl ht ((evictable_iff x).mpr ⟨hheld, hpin⟩)
        fun y hy => (not_evictable_iff y).mpr (ho y hy)
    case full => exact tapClaim_full he hl fun y hy => (not_evictable_iff y).mpr (hn y hy)

end Sys2Proof.Machine
end

section
/-!
PROOF. The lookup queue (R152, R154) and the bank that is never written (R156): what of a state the two laws read, and
the changes that keep them, said once for the shared operations over lanes, berths, the trip log and the lookup queue.
-/
namespace Sys2Proof.Machine

/-! ## What the laws read -/

/-- The lookups of the queue as their law reads them: each one's lane and the token it looks up. -/
def State.lookups (s : State) : List (LaneId × TokenId) := s.deny.queue.map fun q => (q.lane, q.tokenId)

theorem lookupLaw_iff (s : State) : LookupLaw s ↔
    (s.lookups.map Prod.fst).Nodup ∧ ∀ q ∈ s.lookups, (s.lane q.1).ctx.waitsFor q.2 = true := by
  simp [LookupLaw, State.lookups, Function.comp_def]

/-- The law of the banks, taken apart (R156). -/
structure BankSpared (s : State) : Prop where
  op : ∀ o, s.port.op = some o → o.writesBank s.deny.selector = false
  held : ∀ h, s.port.held = some h → bankHasSector s.deny.selector h.sector = false
  program : ∀ o, s.port.op = some o → o.isProgram = true → s.port.held = none
  job : ∀ j, s.port.job = some j → j.inRange = true
  buffer : ∀ b, s.deny.buffer = some b → b.inRange = true
  overflow : s.deny.overflowUsed ≤ 1023
  cold : ∀ stage, s.keep.run = .coldStart stage →
    s.port.held = none ∧ ∀ o, s.port.op = some o → ∀ k, o.writesBank k = false

theorem activeBankLaw_iff (s : State) : ActiveBankLaw s ↔ BankSpared s :=
  ⟨fun ⟨op, held, program, job, buffer, overflow, cold⟩ => ⟨op, held, program, job, buffer, overflow, cold⟩,
    fun ⟨op, held, program, job, buffer, overflow, cold⟩ => ⟨op, held, program, job, buffer, overflow, cold⟩⟩

/-- From `s` to `t` the law of the lookups and the law of the banks are kept, each by itself. -/
structure KeepsList (s t : State) : Prop where
  lookups : LookupLaw s → LookupLaw t
  bank : BankSpared s → BankSpared t

theorem KeepsList.refl (s : State) : KeepsList s s := ⟨id, id⟩

theorem KeepsList.trans {s t u : State} (h : KeepsList s t) (k : KeepsList t u) : KeepsList s u :=
  ⟨k.lookups ∘ h.lookups, k.bank ∘ h.bank⟩

/-! ## Changes that add no lookup -/

/-- From `s` to `t` no lookup joins the queue, and the lane of each that stays waits for it as before. -/
structure Settled (s t : State) : Prop where
  queue : t.lookups.Sublist s.lookups
  waits : ∀ q ∈ t.lookups, (s.lane q.1).ctx.waitsFor q.2 = true → (t.lane q.1).ctx.waitsFor q.2 = true

theorem Settled.refl (s : State) : Settled s s := ⟨.refl _, fun _ _ => id⟩

theorem Settled.trans {s t u : State} (h : Settled s t) (k : Settled t u) : Settled s u :=
  ⟨k.queue.trans h.queue, fun q hq w => k.waits q hq (h.waits q (k.queue.subset hq) w)⟩

theorem Settled.law {s t : State} (h : Settled s t) (hs : LookupLaw s) : LookupLaw t := by
  obtain ⟨nodup, waits⟩ := (lookupLaw_iff s).mp hs
  exact (lookupLaw_iff t).mpr ⟨nodup.sublist (h.queue.map Prod.fst),
    fun q hq => h.waits q hq (waits q (h.queue.subset hq))⟩

/-- No lane changed, and no lookup joined. -/
theorem Aside.settled {s t : State} (h : Aside s t) (queue : t.lookups.Sublist s.lookups) : Settled s t :=
  ⟨queue, fun q _ => (h.lane q.1).symm ▸ id⟩

/-- A lane with no lookup in the queue may take any context. -/
theorem Settled.of_free {s t : State} {l : LaneId} (queue : t.lookups = s.lookups) (free : ∀ q ∈ s.lookups, q.1 ≠ l)
    (other : ∀ k, k ≠ l → ∀ id, (s.lane k).ctx.waitsFor id = true → (t.lane k).ctx.waitsFor id = true) :
    Settled s t :=
  ⟨queue ▸ .refl _, fun q hq => other q.1 (free q (queue ▸ hq)) q.2⟩

/-- A lane whose context waits for nothing has no lookup in the queue. -/
theorem LookupLaw.free_of_ctx {s : State} (h : LookupLaw s) {l : LaneId} (hc : (s.lane l).ctx = .free) :
    ∀ q ∈ s.lookups, q.1 ≠ l := by
  rintro q hq rfl
  have waits := ((lookupLaw_iff s).mp h).2 q hq
  rw [hc] at waits
  cases waits

/-! ## Changes that give the port nothing new to write -/

/-- An operation that neither programs nor erases. -/
def FlashOp.readsOnly : FlashOp → Bool
  | .pageRead _ _ | .reset => true
  | .pageProgram _ _ _ | .sectorErase _ | .suspend _ => false

theorem FlashOp.readsOnly_program {o : FlashOp} (h : o.readsOnly = true) : o.isProgram = false := by
  cases o with
  | pageRead | reset => rfl
  | pageProgram | sectorErase | suspend => cases h

theorem FlashOp.readsOnly_writes {o : FlashOp} (h : o.readsOnly = true) (k : Bank) : o.writesBank k = false := by
  cases o with
  | pageRead | reset => rfl
  | pageProgram | sectorErase | suspend => cases h

/-- From the port `p` to the port `q` nothing that writes was added: no operation but a read or a reset, no held erase,
no job out of range. -/
structure PortSpares (p q : FlashPort) : Prop where
  op : ∀ o, q.op = some o → p.op = some o ∨ o.readsOnly = true
  held : ∀ h, q.held = some h → ∃ k, p.held = some k ∧ k.sector = h.sector
  job : ∀ j, q.job = some j → p.job = some j ∨ j.inRange = true

theorem PortSpares.refl (p : FlashPort) : PortSpares p p := ⟨fun _ => .inl, fun h hh => ⟨h, hh, rfl⟩, fun _ => .inl⟩

/-- A port with the held erase and the job as before. -/
theorem PortSpares.of_op {p q : FlashPort} (held : q.held = p.held) (job : q.job = p.job)
    (op : ∀ o, q.op = some o → p.op = some o ∨ o.readsOnly = true) : PortSpares p q :=
  ⟨op, fun h hh => ⟨h, held ▸ hh, rfl⟩, fun _ hj => .inl (job ▸ hj)⟩

/-- No held erase appears. -/
theorem PortSpares.held_none {p q : FlashPort} (h : PortSpares p q) (hp : p.held = none) : q.held = none := by
  cases hq : q.held with
  | none => rfl
  | some e =>
    obtain ⟨k, hk, -⟩ := h.held e hq
    cases hp.symm.trans hk

/-- From the unit `d` to the unit `e` the active bank is the same, with no buffer and no overflow page added. -/
structure UnitSpares (d e : DenyUnit) : Prop where
  selector : e.selector = d.selector
  buffer : ∀ b, e.buffer = some b → d.buffer = some b
  overflow : e.overflowUsed ≤ d.overflowUsed

theorem UnitSpares.refl (d : DenyUnit) : UnitSpares d d := ⟨rfl, fun _ => id, Nat.le_refl _⟩

/-- A unit with the bank, the buffer and the overflow pages as before. -/
theorem UnitSpares.of_eq {d e : DenyUnit} (selector : e.selector = d.selector) (buffer : e.buffer = d.buffer)
    (overflow : e.overflowUsed = d.overflowUsed) : UnitSpares d e :=
  ⟨selector, fun _ => (buffer ▸ ·), Nat.le_of_eq overflow⟩

/-- From `s` to `t` the active bank is the same, and nothing that writes was added; a cold start begun has an idle port. -/
structure Spares (s t : State) : Prop where
  unit : UnitSpares s.deny t.deny
  port : PortSpares s.port t.port
  cold : ∀ stage, t.keep.run = .coldStart stage → (∃ before, s.keep.run = .coldStart before)
    ∨ t.port.held = none ∧ ∀ o, t.port.op = some o → o.readsOnly = true

/-- The part runs or restarts as before. -/
theorem Spares.of_parts {s t : State} (run : t.keep.run = s.keep.run) (unit : UnitSpares s.deny t.deny)
    (port : PortSpares s.port t.port) : Spares s t :=
  ⟨unit, port, fun stage hr => .inl ⟨stage, run.symm.trans hr⟩⟩

theorem Spares.refl (s : State) : Spares s s := .of_parts rfl (.refl _) (.refl _)

theorem Spares.law {s t : State} (h : Spares s t) (hs : BankSpared s) : BankSpared t where
  op o ho := by
    rw [h.unit.selector]
    rcases h.port.op o ho with same | reads
    · exact hs.op o same
    · exact FlashOp.readsOnly_writes reads _
  held e he := by
    obtain ⟨k, hk, sector⟩ := h.port.held e he
    rw [h.unit.selector, ← sector]
    exact hs.held k hk
  program o ho hp := by
    rcases h.port.op o ho with same | reads
    · exact h.port.held_none (hs.program o same hp)
    · cases (FlashOp.readsOnly_program reads).symm.trans hp
  job j hj := (h.port.job j hj).elim (hs.job j) id
  buffer b hb := hs.buffer b (h.unit.buffer b hb)
  overflow := h.unit.overflow.trans hs.overflow
  cold stage hr := by
    rcases h.cold stage hr with ⟨before, hb⟩ | ⟨held, reads⟩
    · obtain ⟨held, writes⟩ := hs.cold before hb
      exact ⟨h.port.held_none held, fun o ho k => (h.port.op o ho).elim (fun same => writes o same k)
        (fun reads => FlashOp.readsOnly_writes reads k)⟩
    · exact ⟨held, fun o ho => FlashOp.readsOnly_writes (reads o ho)⟩

/-- The events of lanes and berths start reads alone. -/
theorem Quiet.spares {s t : State} (h : Quiet s t) : Spares s t := by
  refine .of_parts (by rw [h.keep])
    (.of_eq (congrArg DenyUnit.selector h.deny :) (congrArg DenyUnit.buffer h.deny :)
      (congrArg DenyUnit.overflowUsed h.deny :))
    (.of_op (congrArg FlashPort.held h.port :) (congrArg FlashPort.job h.port :) fun o ho => ?_)
  rcases h.op with same | ⟨who, page, read⟩
  · exact .inl (same ▸ ho)
  · cases ho.symm.trans read
    exact .inr rfl

theorem Quiet.keepsList {s t : State} (h : Quiet s t) (k : Settled s t) : KeepsList s t := ⟨k.law, h.spares.law⟩

/-! ## Changes beside the deny list unit and the port -/

/-- From `s` to `t` neither the deny list unit nor the port changed, the part runs or restarts as before, and each lane
that waits goes on waiting. -/
structure Apart (s t : State) : Prop where
  run : t.keep.run = s.keep.run
  deny : t.deny = s.deny
  port : t.port = s.port
  waits : ∀ l id, (s.lane l).ctx.waitsFor id = true → (t.lane l).ctx.waitsFor id = true

theorem Apart.refl (s : State) : Apart s s := ⟨rfl, rfl, rfl, fun _ _ => id⟩

theorem Apart.trans {s t u : State} (h : Apart s t) (k : Apart t u) : Apart s u :=
  ⟨k.run.trans h.run, k.deny.trans h.deny, k.port.trans h.port, fun l id w => k.waits l id (h.waits l id w)⟩

/-- No lane changed. -/
theorem Apart.of_eq {s t : State} (run : t.keep.run = s.keep.run) (deny : t.deny = s.deny) (port : t.port = s.port)
    (lanes : t.lanes = s.lanes) : Apart s t :=
  ⟨run, deny, port, fun l id => by simp only [State.lane, lanes, imp_self]⟩

theorem Apart.lookups {s t : State} (h : Apart s t) : t.lookups = s.lookups := by rw [State.lookups, h.deny]; rfl

theorem Apart.settled {s t : State} (h : Apart s t) : Settled s t :=
  ⟨h.lookups ▸ .refl _, fun q _ => h.waits q.1 q.2⟩

theorem Apart.keepsList {s t : State} (h : Apart s t) : KeepsList s t :=
  ⟨h.settled.law, (Spares.of_parts h.run (h.deny ▸ .refl _) (h.port ▸ .refl _)).law⟩

/-- Holdings given back, where each lane that waits goes on waiting. -/
theorem GaveBack.apart {cs : List Content} {n : Nat} {ids : List TokenId} {s t : State} (h : GaveBack cs n ids s t)
    (waits : ∀ l id, (s.lane l).ctx.waitsFor id = true → (t.lane l).ctx.waitsFor id = true) : Apart s t :=
  ⟨by rw [h.keep], h.deny, h.port, waits⟩

/-! ## One lane changed -/

section
variable (s : State) (l : LaneId)

theorem State.setLane_apart {x : Lane}
    (h : ∀ id, (s.lane l).ctx.waitsFor id = true → x.ctx.waitsFor id = true) : Apart s (s.setLane l x) := by
  refine ⟨rfl, rfl, rfl, fun k id w => ?_⟩
  by_cases e : k = l
  · subst e
    rw [State.setLane_lane]
    exact h id w
  · rwa [State.setLane_other s x e]

theorem State.updLane_apart {f : Lane → Lane}
    (h : ∀ id, (s.lane l).ctx.waitsFor id = true → (f (s.lane l)).ctx.waitsFor id = true) : Apart s (s.updLane l f) :=
  s.setLane_apart l h

theorem State.countLane_apart (f : LaneStats → LaneStats) : Apart s (s.countLane l f) :=
  s.updLane_apart l fun _ => id

theorem State.replyLane_apart (r : Option LaneReply) : Apart s (s.replyLane l r) := s.updLane_apart l fun _ => id

/-- A context that waits for nothing, set free of what it holds. -/
theorem State.setContext_apart {c : Context} (h : ∀ id, (s.lane l).ctx.waitsFor id = false) :
    Apart s (s.setContext l c) :=
  s.updLane_apart l fun id w => absurd ((h id).symm.trans w) Bool.false_ne_true

/-- Every lane changed, each that waits going on waiting. -/
theorem State.mapLanes_apart {f : Lane → Lane}
    (h : ∀ (x : Lane) (id : TokenId), x.ctx.waitsFor id = true → (f x).ctx.waitsFor id = true) :
    Apart s (s.withLanes (s.lanes.map f)) := by
  refine ⟨rfl, rfl, rfl, fun k id w => ?_⟩
  rw [show (s.withLanes (s.lanes.map f)).lane k = f (s.lane k) from PerLane.get_map f s.lanes k]
  exact h _ id w

/-- An answered TAKE leaves a lane that waits as it is (R51, R52). -/
theorem Lane.answerTake_waits (x : Lane) (now : Nat) (id : TokenId) (h : x.ctx.waitsFor id = true) :
    (x.answerTake now).ctx.waitsFor id = true := by
  unfold Lane.answerTake
  split
  case h_1 hc => rw [hc] at h; cases h
  case h_2 hc => rw [hc] at h; cases h
  all_goals exact h

theorem State.settle_apart : Apart s (s.settle l) := by
  unfold State.settle
  split
  · exact s.updLane_apart l fun id => Lane.answerTake_waits { s.lane l with takeHeld := false } s.now id
  · exact .refl s

end

/-! ## The trip log and the berths -/

section
variable (s : State) (l : LaneId) (b : BerthId)

theorem Recorded.apart {s t : State} (h : Recorded s t) (run : t.keep.run = s.keep.run)
    (lane : ∀ k, t.lane k = s.lane k) : Apart s t :=
  ⟨run, h.deny, h.port, fun k id w => by rwa [lane k]⟩

theorem State.appendUnreserved_apart (c : Content) : Apart s (s.appendUnreserved c) :=
  (s.appendUnreserved_recorded c).apart (by rw [(s.appendUnreserved_quiet c).keep]) (s.appendUnreserved_lane c)

theorem State.takeAsked_apart : Apart s s.takeAsked := by
  have appended : Recorded (s.withAsked []) s.takeAsked := State.appendAll_recorded s.asked (s.withAsked [])
  exact Apart.trans (t := s.withAsked []) (.of_eq rfl rfl rfl rfl)
    (appended.apart (by rw [s.takeAsked_quiet.keep]; rfl) s.takeAsked_lane)

theorem State.askRefusal_apart (r : Reason) (c : Content) : Apart s (s.askRefusal r c) :=
  (s.askRefusal_recorded r c).apart (by rw [(s.askRefusal_quiet r c).keep]) (s.askRefusal_lane r c)

theorem State.setBerth_apart (x : Berth) : Apart s (s.setBerth b x) := .of_eq rfl rfl rfl rfl

theorem State.setCall_apart (c : Option Call) : Apart s (s.setCall b c) := by
  rw [State.setCall_eq]
  exact .of_eq rfl rfl rfl rfl

theorem State.updCall_apart (f : Call → Call) : Apart s (s.updCall b f) := by
  unfold State.updCall
  split
  · exact s.setCall_apart b _
  · exact .refl s

theorem State.sendHolding_apart (bo : Option BerthId) (m : Holding) : Apart s (s.sendHolding bo l m) := by
  cases bo with
  | none => exact .refl s
  | some b => exact s.updCall_apart b _

theorem State.endCall_apart (n : Bool) : Apart s (s.endCall b n) := by
  unfold State.endCall
  split
  · exact Apart.trans (t := s.appendReserved _) (.of_eq rfl rfl rfl rfl) (State.setCall_apart _ b _)
  · exact .refl s

theorem State.claimPlace_apart : Apart s (s.claimPlace b l).1 :=
  .of_eq (by rw [(s.claimPlace_quiet b l).keep]) (s.claimPlace_list b l).1 (s.claimPlace_list b l).2
    (s.claimPlace_keeps b l).1

/-! ## Holdings ended -/

/-- A lane that waits has no offer to drop. -/
theorem Lane.dropped_waits (x : Lane) (id : TokenId) (h : x.ctx.waitsFor id = true) :
    x.dropped.ctx.waitsFor id = true := by
  cases hc : x.ctx with
  | waiting e d => rw [Lane.dropped_none (by rw [hc]; rfl)]; exact h
  | free | offer | refused => rw [hc] at h; cases h

theorem State.dropOffer_apart {o : Offer} (h : (s.lane l).ctx = .offer o) : Apart s (s.dropOffer l o) := by
  refine (s.dropOffer_gaveBack l o).apart fun k id w => ?_
  by_cases e : k = l
  · subst e
    rw [s.dropOffer_lane h]
    exact Lane.dropped_waits _ id w
  · rw [s.dropOffer_other o e]
    exact w

theorem State.voidEntry_apart (e : Entry) (rest : List Entry) (r : VoidReason) : Apart s (s.voidEntry l e rest r) :=
  (s.voidEntry_gaveBack l e rest r).apart fun k id w => by
    by_cases h : k = l
    · subst h
      rw [s.voidEntry_lane k e rest r]
      exact w
    · rwa [s.voidEntry_other e rest r h]

theorem State.voidList_apart (r : VoidReason) (es : List Entry) : Apart s (s.voidList l r es) := by
  induction es generalizing s with
  | nil => exact .refl s
  | cons e rest ih => exact (s.voidEntry_apart l e rest r).trans (ih _)

theorem State.endHoldings_apart (r : VoidReason) : Apart s (s.endHoldings l r) := by
  refine (s.endHoldings_gaveBack l r).apart fun k id w => ?_
  by_cases e : k = l
  · subst e
    rw [s.endHoldings_lane k r]
    exact Lane.dropped_waits _ id w
  · rw [s.endHoldings_other r e]
    exact w

theorem State.endEveryHolding_apart (ls : List LaneId) : Apart s (s.endEveryHolding ls) := by
  induction ls generalizing s with
  | nil => exact .refl s
  | cons l rest ih => exact (s.endHoldings_apart l .restart).trans (ih _)

theorem State.releaseHoldings_apart (r : VoidReason) : Apart s (s.releaseHoldings b r) := by
  refine Apart.trans (t := s.endBerthHoldings b r LaneId.list) ?_ (State.updCall_apart _ b _)
  refine (State.endBerthHoldings_gaveBack b r LaneId.list_nodup s).apart fun k id w => ?_
  rw [State.endBerthHoldings_lane b r LaneId.list_nodup]
  split
  · exact Lane.dropped_waits _ id w
  · exact w

/-! ## Passages -/

theorem State.commitEntry_apart (e : Entry) (rest : List Entry) : Apart s (s.commitEntry l e rest) := by
  have moved : Apart s (s.updLane l fun x =>
      { x with entries := rest, stats := { x.stats with committed := bump x.stats.committed } }) :=
    s.updLane_apart l fun _ => id
  unfold State.commitEntry
  dsimp only
  refine Apart.trans ?_ (State.sendHolding_apart _ l e.berth .commit)
  exact moved.trans (.of_eq rfl rfl rfl rfl)

theorem State.passAtBerth_apart (f : Call → Call) : Apart s (s.passAtBerth b f) := by
  unfold State.passAtBerth
  split
  · exact s.setCall_apart b _
  · exact .of_eq rfl rfl rfl rfl

theorem State.tailgate_apart : Apart s (s.tailgate l) := by
  have counted : Apart s ((s.appendUnreserved (.tailgate s.clock.calendar l (s.lane l).role.boards)).countLane l
      fun x => { x with tailgates := bump x.tailgates }) :=
    (s.appendUnreserved_apart _).trans (State.countLane_apart _ l _)
  unfold State.tailgate
  dsimp only
  split
  · exact counted.trans (State.passAtBerth_apart _ _ _)
  · exact counted

theorem State.takePassage_apart : Apart s (s.takePassage l) := by
  unfold State.takePassage State.matchPassage
  split
  · exact .refl s
  · exact s.passAtBerth_apart _ _
  · exact s.passAtBerth_apart _ _
  all_goals
    split
    · exact s.commitEntry_apart l _ _
    · exact s.tailgate_apart l

end

end Sys2Proof.Machine
end

section
/-!
PROOF. Every event of the lanes, the berths, the clock and the station port keeps the laws of the lookups and of the
banks (R152, R154, R156).
-/
namespace Sys2Proof.Machine

/-! ## A lookup withdrawn -/

section
variable (s : State) (l : LaneId)

theorem State.withdrawLookup_lookups :
    (s.withdrawLookup l).lookups = s.lookups.filter fun q => decide (q.1 ≠ l) := by
  rw [State.lookups, State.withdrawLookup_queue, State.lookups, List.filter_map]
  rfl

theorem State.withdrawLookup_settled : Settled s (s.withdrawLookup l) :=
  (s.withdrawLookup_aside l).settled (s.withdrawLookup_lookups l ▸ List.filter_sublist)

/-- The lane has no lookup left (R154). -/
theorem State.withdrawLookup_free : ∀ q ∈ (s.withdrawLookup l).lookups, q.1 ≠ l := by
  rw [State.withdrawLookup_lookups]
  exact fun q hq => of_decide_eq_true (List.mem_filter.mp hq).2

/-! ## Decisions -/

variable {s l} (free : ∀ q ∈ s.lookups, q.1 ≠ l)
include free

/-- A lane without a lookup changed in any way. -/
theorem State.updLane_settled (f : Lane → Lane) : Settled s (s.updLane l f) :=
  .of_free rfl free fun k hk id w => by rwa [State.updLane_other s f hk]

theorem State.setContext_settled (c : Context) : Settled s (s.setContext l c) := State.updLane_settled free _

theorem State.decideRefuse_settled (p : Progress) (r : Reason) (d : Option Nat) :
    Settled s (s.decideRefuse l p r d) := by
  unfold State.decideRefuse
  refine Settled.trans ?_ (State.settle_apart _ l).settled
  split
  · exact (State.updLane_settled free _).trans (State.askRefusal_apart _ _ _).settled
  · exact State.updLane_settled free _

theorem State.decideOffer_settled (o : Offer) : Settled s (s.decideOffer l o) :=
  (State.updLane_settled free _).trans (State.settle_apart _ l).settled

theorem State.decidePlace_settled (e : Evaluation) (o : Offer) : Settled s (s.decidePlace l e o) := by
  unfold State.decidePlace
  split
  · exact State.decideOffer_settled free o
  · rename_i b _
    have claimed := s.claimPlace_apart l b
    split
    · rename_i hc
      rw [hc] at claimed
      exact claimed.settled.trans (State.decideOffer_settled (claimed.lookups ▸ free) o)
    · rename_i t r hc
      rw [hc] at claimed
      have back : Apart s (t.releaseSlot.releaseUse e.token.id) := claimed.trans (.of_eq rfl rfl rfl rfl)
      exact back.settled.trans (State.decideRefuse_settled (back.lookups ▸ free) _ _ _)

theorem State.decideClaims_settled (e : Evaluation) (flags : DenyFlags) : Settled s (s.decideClaims l e flags) := by
  unfold State.decideClaims
  split
  · exact State.decideRefuse_settled free _ _ _
  · split
    · exact State.decideRefuse_settled free _ _ _
    · rename_i taps _
      split
      · have back : Apart s ((s.withTaps taps).releaseUse e.token.id) := .of_eq rfl rfl rfl rfl
        exact back.settled.trans (State.decideRefuse_settled (back.lookups ▸ free) _ _ _)
      · rename_i g _
        have claimed : Apart s ((s.withTaps taps).withLog g) := .of_eq rfl rfl rfl rfl
        exact claimed.settled.trans (State.decidePlace_settled (claimed.lookups ▸ free) _ _)

theorem State.applyPolicy_settled (e : Evaluation) : Settled s (s.applyPolicy l e) := by
  unfold State.applyPolicy
  split
  · exact State.decideClaims_settled free e _
  · exact State.decideRefuse_settled free _ _ _

theorem State.decideLookup_settled (e : Evaluation) (o : LookupOutcome) : Settled s (s.decideLookup l e o) := by
  unfold State.decideLookup
  split
  · exact State.decideClaims_settled free e _
  · exact State.decideClaims_settled free e _
  · exact State.decideRefuse_settled free _ _ _
  · exact State.applyPolicy_settled free e

theorem State.handOutcome_settled (o : LookupOutcome) : Settled s (s.handOutcome l o) := by
  unfold State.handOutcome
  split
  · exact State.decideLookup_settled free _ o
  all_goals exact .refl s

/-! ## TAP -/

/-- The lookup of a set bit is its lane's only one, and its lane waits for its token (R115, R152). -/
theorem State.queueLookup_law (h : LookupLaw s) (e : Evaluation) : LookupLaw (s.queueLookup l e) := by
  obtain ⟨nodup, waits⟩ := (lookupLaw_iff s).mp h
  have queue : (s.queueLookup l e).lookups = s.lookups ++ [(l, e.token.id)] := by
    show (s.deny.queue ++ [newLookup l e.token.id]).map _ = _
    rw [List.map_append]
    rfl
  have lane := (s.queueLookup_evaluated e (l := l)).other
  rw [lookupLaw_iff, queue]
  refine ⟨?_, fun q hq => ?_⟩
  · rw [List.map_append, List.nodup_append]
    refine ⟨nodup, List.nodup_singleton l, fun a ha b hb => ?_⟩
    obtain ⟨q, hq, rfl⟩ := List.mem_map.mp ha
    rw [List.mem_singleton.mp hb]
    exact free q hq
  · rcases List.mem_append.mp hq with old | new
    · rw [lane q.1 (free q old)]
      exact waits q old
    · rw [List.mem_singleton.mp new]
      show ((s.queueLookup l e).lane l).ctx.waitsFor e.token.id = true
      unfold State.queueLookup
      rw [State.updLane_lane]
      exact decide_eq_true rfl

theorem State.startEvaluation_law (h : LookupLaw s) (t : TokenRecord) : LookupLaw (s.startEvaluation l t) := by
  unfold State.startEvaluation State.denyCheck
  split
  · exact (State.decideRefuse_settled free _ _ _).law h
  · split
    · exact (State.applyPolicy_settled free _).law h
    · exact (State.decideClaims_settled free _ _).law h
    · exact State.queueLookup_law free h _

end

section
variable (s : State) (l : LaneId) (b : BerthId)

/-- An evaluation cancelled takes its lookup with it (R127, R154). -/
theorem State.cancelEvaluation_settled : Settled s (s.cancelEvaluation l) :=
  (s.withdrawLookup_settled l).trans (State.setContext_settled (s.withdrawLookup_free l) .free)

theorem State.clearForTap_settled : Settled s (s.clearForTap l) := by
  cases h : (s.lane l).ctx <;> simp only [State.clearForTap, h]
  case free => exact .refl s
  case waiting => exact (s.cancelEvaluation_settled l).trans (State.countLane_apart _ l _).settled
  case offer => exact (s.dropOffer_apart l h).settled
  case refused => exact (s.setContext_apart l fun _ => by rw [h]; rfl).settled

/-- A TAP's evaluation starts at a lane whose context is free (R45). -/
theorem State.takeTap_keepsList (t : TokenRecord) : KeepsList s (s.takeTap l t) := by
  refine ⟨fun h => ?_, (s.takeTap_quiet l t).spares.law⟩
  have cleared := ((s.setLane_apart l (x := (s.lane l).tapped) fun _ => id).settled.trans
    (State.clearForTap_settled _ l)).law h
  have ctx : (((s.setLane l (s.lane l).tapped).clearForTap l).lane l).ctx = .free := by
    rw [State.clearForTap_lane]
    unfold Lane.clearedForTap
    split
    · assumption
    all_goals rfl
  rw [State.takeTap_eq]
  exact State.startEvaluation_law (cleared.free_of_ctx ctx) cleared t

/-! ## The berths -/

theorem State.openCall_apart (a : ArriveArgs) : Apart s (s.openCall b a).1 := by
  unfold State.openCall
  split
  · split
    · exact .refl s
    · have opened (g : TripLog) (c : Option Call) : Apart s ((s.withLog g).setCall b c) :=
        Apart.trans (t := s.withLog g) (.of_eq rfl rfl rfl rfl) (State.setCall_apart _ b c)
      dsimp only
      split
      · exact (opened _ _).trans (State.setBerth_apart _ b _)
      · exact opened _ _
  · exact .refl s

theorem State.takeArrive_apart (a : ArriveArgs) : Apart s (s.takeArrive b a).1 := by
  unfold State.takeArrive State.replaceVessel
  split
  · exact s.openCall_apart b a
  · split
    · split
      · exact s.setCall_apart b _
      · split
        · exact ((s.releaseHoldings_apart b _).trans (State.endCall_apart _ b true)).trans (State.openCall_apart _ b a)
        · exact .refl s
    · split <;> exact .refl s

theorem State.takeRampOpen_apart : Apart s (s.takeRampOpen b).1 := by
  unfold State.takeRampOpen
  split
  · exact .refl s
  · split
    · exact .refl s
    · split
      · exact s.setCall_apart b _
      all_goals exact .refl s

theorem State.takeDepartReq_apart : Apart s (s.takeDepartReq b).1 := by
  unfold State.takeDepartReq
  split
  · exact .refl s
  · split
    · exact .refl s
    · split
      case h_1 | h_2 => exact s.setCall_apart b _
      all_goals exact .refl s

theorem State.takeHandover_apart : Apart s (s.takeHandover b).1 := by
  unfold State.takeHandover
  split
  · exact .refl s
  · split
    · exact .refl s
    · split
      · exact s.endCall_apart b false
      all_goals exact .refl s

theorem State.takeFromLane_apart (m : Holding) : Apart s (s.takeFromLane b l m) := by
  unfold State.takeFromLane
  split
  · exact .refl s
  · split
    · exact .refl s
    · exact s.setCall_apart b _

theorem State.takeSetCap_apart (cap : Nat) : Apart s (s.takeSetCap b cap).1 := by
  unfold State.takeSetCap
  split
  · split
    · exact .refl s
    · exact s.setCall_apart b _
  · exact .refl s

theorem State.takeClose_apart : Apart s (s.takeClose b).1 := by
  unfold State.takeClose
  split
  · exact .refl s
  · split
    case h_3 | h_4 => exact s.setCall_apart b _
    all_goals exact .refl s

theorem State.takeReopen_apart : Apart s (s.takeReopen b).1 := by
  unfold State.takeReopen
  split
  · exact .refl s
  · split
    · exact s.setCall_apart b _
    all_goals exact .refl s

theorem State.takeVacate_apart : Apart s (s.takeVacate b).1 := by
  unfold State.takeVacate
  split
  · exact .refl s
  · exact (s.releaseHoldings_apart b .forced).trans (State.endCall_apart _ b true)

/-! ## The lanes and the clock by the station's orders -/

theorem State.setRole_apart (role : Role) (settings : LaneSettings) : Apart s (s.setRole l role settings).1 := by
  unfold State.setRole
  split
  · exact s.updLane_apart l (f := fun x => { x with role := role, settings := settings }) fun _ => id
  · exact .refl s

theorem State.clearContext_keepsList : KeepsList s (s.clearContext l) := by
  refine (s.clearContext_cleared l).quiet.keepsList ?_
  cases h : (s.lane l).ctx <;> simp only [State.clearContext, h]
  case free => exact .refl s
  case waiting => exact (s.cancelEvaluation_settled l).trans (State.settle_apart _ l).settled
  case offer => exact (s.dropOffer_apart l h).settled
  case refused => exact (s.setContext_apart l fun _ => by rw [h]; rfl).settled

theorem State.takeClear_keepsList : KeepsList s (s.takeClear l).1 :=
  (s.clearContext_keepsList l).trans (State.voidList_apart _ l .cleared _).keepsList

theorem State.handDay_apart (day : Nat) : Apart s (s.handDay day) := by
  unfold State.handDay
  split <;> exact .of_eq rfl rfl rfl rfl

theorem State.takeSetClock_apart (a : ClockArgs) : Apart s (s.takeSetClock a).1 := by
  unfold State.takeSetClock
  split
  · have set (c : Clock) : Apart s (s.withClock c) := .of_eq rfl rfl rfl rfl
    refine Apart.trans ?_ (State.appendUnreserved_apart _ _)
    split
    · exact set _
    · exact (set _).trans (State.handDay_apart _ _)
  · exact .refl s

theorem State.takeDrop_apart (a : DropArgs) : Apart s (s.takeDrop a).1 := by
  unfold State.takeDrop
  split
  · split <;> exact .of_eq rfl rfl rfl rfl
  · exact .refl s

end

end Sys2Proof.Machine
end

section
/-!
PROOF. The list flash port keeps the laws of the lookups and of the banks (R152, R156): what a job programs or erases lies
outside the active bank, and a commit switches banks with an idle port.
-/
namespace Sys2Proof.Machine

/-! ## What a job writes -/

theorem within_false_of_lt {lo hi n : Nat} (h : n < lo) : within lo hi n = false := by
  simp only [within, decide_eq_false (Nat.not_le.mpr h), Bool.false_and]

/-- A page of the other bank is none of this one (R145). -/
theorem bankHasPage_other (k : Bank) {p : Nat} (h : p < 5120) : bankHasPage k (bankFlashPage k.other p) = false := by
  cases k with
  | bankA => exact decide_eq_false (by simp only [bankFlashPage, Bank.other]; omega)
  | bankB => exact within_false_of_lt h

/-- A sector of the other bank is none of this one (R145). -/
theorem bankHasSector_other (k : Bank) {n : Nat} (h : n < 320) :
    bankHasSector k (bankFlashSector k.other n) = false := by
  cases k with
  | bankA => exact decide_eq_false (by simp only [bankFlashSector, Bank.other]; omega)
  | bankB => exact within_false_of_lt h

/-- The pages of the settings image lie behind both banks (R183). -/
theorem bankHasPage_image (k : Bank) (n : Nat) : bankHasPage k (10240 + n) = false := by
  cases k with
  | bankA => exact decide_eq_false (by omega)
  | bankB => simp [bankHasPage, within]; omega

theorem bankHasSector_image (k : Bank) (n : Nat) : bankHasSector k (640 + n) = false := by
  cases k with
  | bankA => exact decide_eq_false (by omega)
  | bankB => simp [bankHasSector, within]; omega

/-- Whether a job's operation leaves a bank as it is. -/
def JobOp.spares (k : Bank) : JobOp → Prop
  | .erase sector => bankHasSector k sector = false
  | .program page _ => bankHasPage k page = false
  | .rebuildRead _ => True

/-- The next operation of a job in its range spares the active bank (R157, R161, R164, R184). -/
theorem jobOp_spares (d : DenyUnit) {j : Job} (h : j.inRange = true) : (jobOp d j).spares d.selector := by
  cases j with
  | listErase i =>
    have hi : i < 320 := of_decide_eq_true h
    refine bankHasSector_other d.selector ?_
    unfold listEraseSector
    split <;> omega
  | flush target content => exact bankHasPage_other d.selector (of_decide_eq_true h)
  | commit closing =>
    cases closing with
    | none => exact bankHasPage_other d.selector (by decide)
    | some c => exact bankHasPage_other d.selector (of_decide_eq_true h)
  | rebuild => trivial
  | settingsStore copy i =>
    show JobOp.spares _ (if i < 3 then .erase (640 + i)
      else if i < 36 then .program (imageContentPage (i - 3)) (imagePageBytes copy (i - 3))
      else .program imageHeaderPage imageHeaderBytes)
    split
    · exact bankHasSector_image d.selector i
    · split
      · have page : imageContentPage (i - 3) = 10240 + (1 + (i - 3)) := by unfold imageContentPage; omega
        show bankHasPage d.selector (imageContentPage (i - 3)) = false
        rw [page]
        exact bankHasPage_image d.selector _
      · exact bankHasPage_image d.selector 0

/-- A port whose operation is given to the background job spares a bank: the resume of a held erase, or the job's own
operation. -/
theorem FlashPort.grantJob_spares {p : FlashPort} {k : Bank}
    (held : ∀ h, p.held = some h → bankHasSector k h.sector = false) {next : JobOp} (hn : next.spares k) (now : Nat) :
    (∀ o, (p.grantJob next now).op = some o → o.writesBank k = false)
      ∧ (∀ h, (p.grantJob next now).held = some h → bankHasSector k h.sector = false)
      ∧ (∀ o, (p.grantJob next now).op = some o → o.isProgram = true → (p.grantJob next now).held = none)
      ∧ (p.grantJob next now).job = p.job := by
  unfold FlashPort.grantJob
  cases hh : p.held with
  | some e =>
    have sector := held e hh
    simpa [FlashOp.writesBank, FlashOp.isProgram] using sector
  | none =>
    cases next with
    | erase sector =>
      have sector : bankHasSector k sector = false := hn
      simpa [FlashOp.writesBank, FlashOp.isProgram] using sector
    | program page bytes =>
      have page : bankHasPage k page = false := hn
      simpa [hh, FlashOp.writesBank] using page
    | rebuildRead page => simp [FlashOp.writesBank, FlashOp.isProgram]

/-! ## The port or the unit replaced -/

section
variable (s : State)

/-- The port replaced by one with nothing more to write. -/
theorem State.withPort_keepsList {p : FlashPort} (h : PortSpares s.port p) : KeepsList s (s.withPort p) :=
  ⟨id, Spares.law (.of_parts rfl (.refl _) h)⟩

/-- The unit replaced by one with the same queue and nothing more to write. -/
theorem State.withDeny_keepsList {d : DenyUnit} (h : UnitSpares s.deny d) (queue : d.queue = s.deny.queue) :
    KeepsList s (s.withDeny d) := by
  have same : (s.withDeny d).lookups = s.lookups := by rw [State.lookups, State.lookups, ← queue]; rfl
  exact ⟨(Aside.settled (s := s) (t := s.withDeny d) ⟨rfl, rfl, rfl⟩ (same ▸ .refl _)).law,
    Spares.law (.of_parts rfl h (.refl _))⟩

theorem State.latchListDone_apart : Apart s s.latchListDone := .of_eq rfl rfl rfl rfl

theorem State.latchSettingsDone_apart : Apart s s.latchSettingsDone := .of_eq rfl rfl rfl rfl

theorem State.latchRestarted_apart : Apart s s.latchRestarted := .of_eq rfl rfl rfl rfl

variable {s}

theorem KeepsList.port {t : State} (h : KeepsList s t) {p : FlashPort} (hp : PortSpares t.port p) :
    KeepsList s (t.withPort p) := h.trans (t.withPort_keepsList hp)

theorem KeepsList.unit {t : State} (h : KeepsList s t) {d : DenyUnit} (hd : UnitSpares t.deny d)
    (queue : d.queue = t.deny.queue) : KeepsList s (t.withDeny d) := h.trans (t.withDeny_keepsList hd queue)

theorem KeepsList.listDone {t : State} (h : KeepsList s t) : KeepsList s t.latchListDone :=
  h.trans t.latchListDone_apart.keepsList

theorem KeepsList.settingsDone {t : State} (h : KeepsList s t) : KeepsList s t.latchSettingsDone :=
  h.trans t.latchSettingsDone_apart.keepsList

/-- A list update ends with its standby state and LIST_DONE (R158, R165). -/
theorem KeepsList.listEnded {t : State} (h : KeepsList s t) (x : Standby) :
    KeepsList s ((t.withDeny (t.deny.setStandby x)).latchListDone) :=
  .listDone (.unit h (.of_eq rfl rfl rfl) rfl)

variable (s)

/-! ## Grants -/

theorem State.grantRead_lookups (w : Bool) : (s.grantRead w).lookups = s.lookups := by
  cases hq : s.deny.queue with
  | nil => simp only [State.grantRead, hq]; rfl
  | cons q rest => simp only [State.lookups, State.grantRead_queue hq, hq, List.map_cons]

theorem State.grantRead_keepsList (w : Bool) : KeepsList s (s.grantRead w) :=
  (s.grantRead_quiet w).keepsList ((s.grantRead_aside w).settled (s.grantRead_lookups w ▸ .refl _))

/-- The grant of the background job while the part runs. -/
theorem State.grantJob_keepsList (hr : s.keep.run = .running) {j : Job} (hj : s.port.job = some j) :
    KeepsList s (s.withPort (s.port.grantJob (jobOp s.deny j) s.now)) := by
  refine ⟨id, fun h => ?_⟩
  obtain ⟨op, held, program, job⟩ := FlashPort.grantJob_spares h.held (jobOp_spares s.deny (h.job j hj)) s.now
  exact ⟨op, held, program, fun i hi => h.job i (job ▸ hi), h.buffer, h.overflow,
    fun stage e => nomatch hr.symm.trans e⟩

theorem State.carryOut_keepsList (hr : s.keep.run = .running) : KeepsList s s.carryOut := by
  unfold State.carryOut
  split
  case h_1 => exact s.grantRead_keepsList _
  case h_2 hj => exact s.grantJob_keepsList hr hj
  case h_3 => exact s.withPort_keepsList (.of_op rfl rfl fun _ => .inl)
  case h_4 => exact .refl s

theorem State.arbitrate_keepsList : KeepsList s s.arbitrate :=
  s.arbitrate_quiet.keepsList (s.arbitrate_aside.settled (.refl _))

/-- A suspend is issued to the erase in progress (R179). -/
theorem State.suspend_keepsList {sector : Nat} (hr : s.keep.run = .running)
    (ho : s.port.op = some (.sectorErase sector)) :
    KeepsList s (s.withPort { s.port with op := some (.suspend sector) }) := by
  refine ⟨id, fun h => ⟨fun o e => ?_, h.held, fun o e hp => ?_, h.job, h.buffer, h.overflow,
    fun stage e => nomatch hr.symm.trans e⟩⟩
  · cases e
    exact h.op (.sectorErase sector) ho
  · cases e
    cases hp

/-! ## Ends of operations -/

theorem PortSpares.withJob (p : FlashPort) {j : Job} (h : j.inRange = true) :
    PortSpares p { p with job := some j } :=
  ⟨fun _ => .inl, fun e he => ⟨e, he, rfl⟩, fun k (hk : some j = some k) => .inr (Option.some.inj hk ▸ h)⟩

/-- A job created in its range (R175). -/
theorem State.createJob_keepsList {j : Job} (h : j.inRange = true) : KeepsList s (s.createJob j) :=
  (s.withPort_keepsList (.withJob _ h)).trans (State.arbitrate_keepsList _)

theorem PortSpares.free (p : FlashPort) : PortSpares p p.free :=
  .of_op rfl rfl fun _ ho => (nomatch ho)

theorem PortSpares.endErase (p : FlashPort) : PortSpares p p.endErase :=
  ⟨fun _ => .inl, fun _ he => (nomatch he), fun _ => .inl⟩

theorem PortSpares.endJob (p : FlashPort) : PortSpares p p.endJob :=
  ⟨fun _ => .inl, fun e he => ⟨e, he, rfl⟩, fun _ hj => (nomatch hj)⟩

theorem State.endOp_keepsList : KeepsList s s.endOp := s.withPort_keepsList (.free _)

theorem State.endJob_keepsList : KeepsList s (s.withPort s.port.endJob) := s.withPort_keepsList (.endJob _)

theorem State.nextOp_keepsList {j : Job} (h : j.inRange = true) : KeepsList s (s.nextOp j) :=
  s.withPort_keepsList (.withJob _ h)

/-- A failed outcome leaves the port without a held erase and without a job (R182). -/
theorem State.failJob_keepsList {op : Option FlashOp} (h : ∀ o, op = some o → o.readsOnly = true) :
    KeepsList s (s.failJob op) := by
  have failed : KeepsList s (s.withPort { s.port.endErase.endJob with op := op, due := none }) :=
    s.withPort_keepsList ⟨fun o ho => .inr (h o ho), fun e he => (nomatch he), fun _ hj => (nomatch hj)⟩
  have emptied : UnitSpares s.deny (s.deny.setStandby .fault).emptyBuffer :=
    ⟨rfl, fun b hb => (nomatch hb), Nat.le_refl _⟩
  unfold State.failJob
  dsimp only
  split
  case h_1 | h_2 => exact .listEnded failed .fault
  case h_3 => exact .listDone (.unit failed emptied rfl)
  case h_4 => exact .settingsDone (.port failed (.of_op rfl rfl fun _ => .inl))
  case h_5 | h_6 => exact failed

theorem State.failJob_none_keepsList : KeepsList s (s.failJob none) := s.failJob_keepsList nofun

theorem State.failJob_reset_keepsList : KeepsList s (s.failJob (some .reset)) :=
  s.failJob_keepsList (by rintro o ⟨⟩; rfl)

/-- A list erase goes on to its next sector, below 320 (R157, R158). -/
theorem State.eraseGood_keepsList : KeepsList s s.eraseGood := by
  have ended : KeepsList s (s.withPort s.port.endErase).endOp :=
    (s.withPort_keepsList (.endErase _)).trans (State.endOp_keepsList _)
  unfold State.eraseGood
  dsimp only
  split
  case h_1 =>
    split
    case isTrue h => exact ended.trans (State.nextOp_keepsList _ (decide_eq_true h))
    case isFalse => exact .listEnded (.port ended (.endJob _)) .opened
  case h_2 => exact ended.trans (State.nextOp_keepsList _ rfl)
  all_goals exact ended

theorem State.eraseEnded_keepsList (good : Bool) : KeepsList s (s.eraseEnded good) := by
  cases good with
  | false => exact s.failJob_none_keepsList
  | true => exact s.eraseGood_keepsList

/-- A commit switches banks with no operation, no held erase and no job (R164). -/
theorem State.switch_spared (hr : s.keep.run = .running) (op : s.port.op = none) (held : s.port.held = none)
    (job : s.port.job = none) : BankSpared (s.withDeny s.deny.switch) :=
  ⟨fun _ ho => (nomatch op.symm.trans ho), fun _ hh => (nomatch held.symm.trans hh), fun _ _ _ => held,
    fun _ hj => (nomatch job.symm.trans hj), fun _ hb => (nomatch hb), Nat.zero_le _,
    fun _ e => (nomatch hr.symm.trans e)⟩

theorem State.commitSwitch_apart : Apart (s.withDeny s.deny.switch) s.commitSwitch :=
  Apart.trans (State.appendUnreserved_apart _ _) (State.latchListDone_apart _)

theorem State.storeDone_keepsList : KeepsList s s.storeDone :=
  .settingsDone (.port (.refl s) ⟨fun _ => .inl, fun e he => ⟨e, he, rfl⟩, fun _ hj => (nomatch hj)⟩)

theorem State.programGood_keepsList (hr : s.keep.run = .running) {o : FlashOp} (ho : s.port.op = some o)
    (hp : o.isProgram = true) : KeepsList s s.programGood := by
  have ended := s.endOp_keepsList
  unfold State.programGood
  dsimp only
  split
  case h_1 => exact ended.trans (State.endJob_keepsList _)
  case h_2 => exact ended.trans (State.nextOp_keepsList _ rfl)
  case h_3 =>
    have freed := ended.trans (State.endJob_keepsList s.endOp)
    have switched := (State.commitSwitch_apart (s.endOp.withPort s.endOp.port.endJob)).keepsList
    exact ⟨switched.lookups ∘ freed.lookups,
      fun h => switched.bank (State.switch_spared _ hr rfl (h.program o ho hp) rfl)⟩
  case h_4 =>
    split
    · exact ended.trans (State.nextOp_keepsList _ rfl)
    · exact ended.trans (State.storeDone_keepsList _)
  all_goals exact ended

theorem State.programEnded_keepsList (hr : s.keep.run = .running) {o : FlashOp} (ho : s.port.op = some o)
    (hp : o.isProgram = true) (good : Bool) : KeepsList s (s.programEnded good) := by
  cases good with
  | false => exact s.failJob_none_keepsList
  | true => exact s.programGood_keepsList hr ho hp

theorem State.actLimit_keepsList : KeepsList s s.actLimit := by
  unfold State.actLimit
  split
  · exact s.failJob_reset_keepsList
  · exact .refl s

theorem State.suspendHeld_keepsList : KeepsList s s.suspendHeld := by
  have held : PortSpares s.port { s.port with
      op := none, due := none, held := s.port.held.map fun h => { h with suspended := true },
      suspendCount := s.port.suspendCount + 1 } := by
    refine ⟨fun _ ho => (nomatch ho), fun e he => ?_, fun _ => .inl⟩
    obtain ⟨k, hk, rfl⟩ := Option.map_eq_some_iff.mp he
    exact ⟨k, hk, rfl⟩
  exact (s.withPort_keepsList held).trans (Apart.keepsList (.of_eq rfl rfl rfl rfl))

theorem State.suspendEnded_keepsList (status : SuspendStatus) : KeepsList s (s.suspendEnded status) := by
  cases status with
  | suspended => exact s.suspendHeld_keepsList.trans (State.actLimit_keepsList _)
  | ended good =>
    show KeepsList s (if s.port.eraseLimitReached s.now then s.actLimit else s.eraseEnded good)
    split
    · exact s.actLimit_keepsList
    · exact s.eraseEnded_keepsList good

/-! ## Ends of page reads -/

theorem State.endRead_keepsList (reads : FlashReads) : KeepsList s (s.endRead reads) :=
  s.endOp_keepsList.trans (Apart.keepsList (.of_eq rfl rfl rfl rfl))

theorem State.lookupRead_quiet (res : PageResult) : Quiet s (s.lookupRead res) := by
  have outcome (t : State) (l : LaneId) (o : LookupOutcome) : Quiet t (t.handOutcome l o) := by
    unfold State.handOutcome
    split
    · exact t.decideLookup_quiet l _ o
    all_goals exact .refl t
  unfold State.lookupRead
  split
  · split
    · exact (s.withQueueField_quiet _).trans (outcome _ _ _)
    · exact s.withQueueField_quiet _
  · exact .refl s

/-- A lookup that goes on keeps its lane and its token (R153). -/
theorem Lookup.judge_continues {q q' : Lookup} {res : PageResult} (h : q.judge res = .continues q') :
    q'.lane = q.lane ∧ q'.tokenId = q.tokenId := by
  unfold Lookup.judge at h
  repeat' split at h
  all_goals cases h
  exact ⟨rfl, rfl⟩

/-- The queue replaced by one without some of its lookups. -/
theorem State.withQueue_settled {queue : List Lookup}
    (h : (queue.map fun q => (q.lane, q.tokenId)).Sublist s.lookups) : Settled s (s.withQueue queue) :=
  Aside.settled (s := s) (t := s.withQueue queue) ⟨rfl, rfl, rfl⟩ h

/-- The head lookup that ends was its lane's only one, so the decision finds the lane without a lookup. -/
theorem State.lookupRead_law (res : PageResult) (h : LookupLaw s) : LookupLaw (s.lookupRead res) := by
  unfold State.lookupRead
  split
  · rename_i q rest hq
    have queue : s.lookups = (q.lane, q.tokenId) :: rest.map fun q => (q.lane, q.tokenId) := by
      unfold State.lookups
      rw [hq]
      rfl
    split
    · rename_i o _
      have nodup := ((lookupLaw_iff s).mp h).1
      rw [queue, List.map_cons, List.nodup_cons] at nodup
      have popped : Settled s (s.withQueue rest) := s.withQueue_settled (queue ▸ List.sublist_cons_self _ _)
      have free : ∀ p ∈ (s.withQueue rest).lookups, p.1 ≠ q.lane :=
        fun p hp e => nodup.1 (List.mem_map.mpr ⟨p, hp, e⟩)
      exact (popped.trans (State.handOutcome_settled free o)).law h
    · rename_i q' hj
      obtain ⟨lane, token⟩ := Lookup.judge_continues hj
      refine (s.withQueue_settled ?_).law h
      rw [queue, List.map_cons, lane, token]
  · exact h

theorem State.rebuildDone_keepsList (r : Rebuild) : KeepsList s (s.rebuildDone r) := by
  have unit : UnitSpares s.deny { s.deny with activeFilter := r.fresh, rebuild := none } := .of_eq rfl rfl rfl
  exact .listDone (.port (.unit (.refl s) unit rfl) (.endJob _))

theorem State.rebuildRead_keepsList (res : PageResult) : KeepsList s (s.rebuildRead res) := by
  unfold State.rebuildRead
  split
  · split
    · exact s.withDeny_keepsList (.of_eq rfl rfl rfl) rfl
    · exact s.rebuildDone_keepsList _
  · exact .refl s

theorem State.readEnded_keepsList (res : PageResult) (who : Requester) : KeepsList s (s.readEnded res who) := by
  cases who with
  | lookup =>
    exact KeepsList.trans ⟨s.lookupRead_law res, (s.lookupRead_quiet res).spares.law⟩ (State.actLimit_keepsList _)
  | withdrawn => exact s.actLimit_keepsList
  | rebuild => exact s.rebuildRead_keepsList res
  | startUp => exact .refl s

end

end Sys2Proof.Machine
end

section
/-!
PROOF. The list writer and the restarts keep the laws of the lookups and of the banks (R152, R156): buffer, overflow pages
and flushes lie inside the bank, and a cold start chooses its bank with nothing to write.
-/
namespace Sys2Proof.Machine

/-! ## The list writer -/

/-- The writer goes on only where R160 sends it: what every entry taken keeps, all of them keep. -/
theorem addEntries_keeps {p : DenyUnit → Option Job → Prop} (jobAtStart : Bool)
    (joins : ∀ d flush e, p d flush → p (d.addJoining e) flush)
    (closing : ∀ d flush buf e, d.buffer = some buf → p d flush →
      p (d.addClosing buf e).2 (some (d.addClosing buf e).1))
    (linked : ∀ d flush buf e, d.buffer = some buf → d.judgeAdd e = .linkedFlush → p d flush →
      p (d.addLinked buf e).2 (some (d.addLinked buf e).1))
    (es : List DenyEntry) (d : DenyUnit) (flush : Option Job) (count : Nat) (h : p d flush) :
    p (addEntries jobAtStart d flush count es).unit (addEntries jobAtStart d flush count es).flush := by
  induction es generalizing d flush count with
  | nil => exact h
  | cons e rest ih =>
    unfold addEntries
    split
    · exact h
    · exact ih _ _ _ (joins d flush e h)
    · rename_i buf _ hb
      split
      · exact h
      · split
        · exact h
        · exact ih _ _ _ (closing d flush buf e hb h)
    · rename_i buf hj hb
      split
      · exact h
      · split
        · exact h
        · exact ih _ _ _ (linked d flush buf e hb hj h)
    · exact ih _ _ _ (joins d flush e h)
    · exact ih _ _ _ (joins d flush e h)

/-- What the writer keeps of a unit `d`: its bank and its lookups stand, and buffer, overflow pages and flush lie inside
the bank (R159, R161). -/
structure Written (d u : DenyUnit) (flush : Option Job) : Prop where
  selector : u.selector = d.selector
  queue : u.queue = d.queue
  buffer : ∀ b, u.buffer = some b → b.inRange = true
  overflow : u.overflowUsed ≤ 1023
  flush : ∀ j, flush = some j → j.inRange = true

/-- The bucket index has twelve bits (R146). -/
theorem bucketOf_lt (t : TokenId) : bucketOf t < 4096 := by
  unfold bucketOf
  exact BitVec.isLt _

theorem freshBuffer_inRange (t : TokenId) : (freshBuffer (bucketOf t)).inRange = true :=
  decide_eq_true (Nat.lt_trans (bucketOf_lt t) (by decide))

/-- A buffer's page may be flushed. -/
theorem Buffer.flush_inRange {b : Buffer} (h : b.inRange = true) (content : DenyPage) :
    Job.inRange (.flush b.target content) = true :=
  decide_eq_true (Nat.lt_trans (of_decide_eq_true h) (by decide))

/-- A linked flush allocates one of the 1023 overflow pages (R145, R161). -/
theorem DenyUnit.judgeAdd_linkedFlush {d : DenyUnit} {e : DenyEntry} (h : d.judgeAdd e = .linkedFlush) :
    d.overflowUsed ≠ 1023 := by
  unfold DenyUnit.judgeAdd at h
  repeat' split at h
  all_goals cases h
  assumption

/-- An entry taken into a buffer inside the bank. -/
theorem Written.takeInto {d u : DenyUnit} {flush : Option Job} (h : Written d u flush) {buf : Buffer}
    (hb : buf.inRange = true) (e : DenyEntry) : Written d (u.takeInto buf e) flush :=
  ⟨h.selector, h.queue, fun _ eq => Option.some.inj eq ▸ hb, h.overflow, h.flush⟩

/-- A flush started inside the bank. -/
theorem Written.started {d u : DenyUnit} {flush : Option Job} (h : Written d u flush) {j : Job}
    (hj : j.inRange = true) : Written d u (some j) :=
  ⟨h.selector, h.queue, h.buffer, h.overflow, fun _ eq => Option.some.inj eq ▸ hj⟩

theorem addEntries_written {d : DenyUnit} (buffer : ∀ b, d.buffer = some b → b.inRange = true)
    (overflow : d.overflowUsed ≤ 1023) (jobAtStart : Bool) (es : List DenyEntry) :
    Written d (addEntries jobAtStart d none 0 es).unit (addEntries jobAtStart d none 0 es).flush := by
  refine addEntries_keeps (p := Written d) jobAtStart (fun u flush e h => ?_) (fun u flush buf e hb h => ?_)
    (fun u flush buf e hb hj h => ?_) es d none 0 ⟨rfl, rfl, buffer, overflow, fun _ hj => (nomatch hj)⟩
  · have range : (u.buffer.getD (freshBuffer (bucketOf e.tokenId))).inRange = true := by
      cases hu : u.buffer with
      | none => exact freshBuffer_inRange e.tokenId
      | some b => exact h.buffer b hu
    exact h.takeInto range e
  · exact (h.takeInto (freshBuffer_inRange e.tokenId) e).started (Buffer.flush_inRange (h.buffer buf hb) _)
  · have room : u.overflowUsed < 1023 := Nat.lt_of_le_of_ne h.overflow (DenyUnit.judgeAdd_linkedFlush hj)
    have grown : Written d { u with overflowUsed := u.overflowUsed + 1 } flush :=
      ⟨h.selector, h.queue, h.buffer, room, h.flush⟩
    have range : overflowPage u.overflowUsed < 5119 := by unfold overflowPage; omega
    exact (grown.takeInto (decide_eq_true range) e).started (Buffer.flush_inRange (h.buffer buf hb) _)

section
variable (s : State)

/-- The unit as the writer leaves it. -/
theorem State.withWritten_keepsList {u : DenyUnit} {flush : Option Job}
    (h : BankSpared s → Written s.deny u flush) (queue : u.queue = s.deny.queue) : KeepsList s (s.withDeny u) := by
  have same : (s.withDeny u).lookups = s.lookups := by rw [State.lookups, State.lookups, ← queue]; rfl
  refine ⟨(Aside.settled (s := s) (t := s.withDeny u) ⟨rfl, rfl, rfl⟩ (same ▸ .refl _)).law, fun hs => ?_⟩
  have w := h hs
  exact ⟨fun o ho => w.selector ▸ hs.op o ho, fun e he => w.selector ▸ hs.held e he, hs.program, hs.job, w.buffer,
    w.overflow, hs.cold⟩

theorem State.addToList_keepsList (es : List DenyEntry) : KeepsList s (s.addToList es).1 := by
  have written (h : BankSpared s) := addEntries_written h.buffer h.overflow s.port.job.isSome es
  have queue : (addEntries s.port.job.isSome s.deny none 0 es).unit.queue = s.deny.queue :=
    addEntries_keeps (p := fun u _ => u.queue = s.deny.queue) _ (fun _ _ _ => id) (fun _ _ _ _ _ => id)
      (fun _ _ _ _ _ _ => id) es s.deny none 0 rfl
  have unit := s.withWritten_keepsList written queue
  have taken : KeepsList s (match (addEntries s.port.job.isSome s.deny none 0 es).flush with
      | some j => (s.withDeny (addEntries s.port.job.isSome s.deny none 0 es).unit).createJob j
      | none => s.withDeny (addEntries s.port.job.isSome s.deny none 0 es).unit) := by
    split
    · rename_i j hj
      exact ⟨(State.arbitrate_keepsList _).lookups ∘ unit.lookups,
        fun h => (State.createJob_keepsList _ ((written h).flush j hj)).bank (unit.bank h)⟩
    · exact unit
  unfold State.addToList
  dsimp only
  split
  · exact taken
  · exact taken
  · exact .refl s

/-- A list erase is created with the writer emptied (R157). -/
theorem State.takeListBegin_keepsList : KeepsList s s.takeListBegin.1 := by
  have unit : KeepsList s (s.withDeny s.deny.begin) :=
    s.withDeny_keepsList ⟨rfl, fun _ hb => (nomatch hb), Nat.zero_le _⟩ rfl
  have begun := unit.trans (State.createJob_keepsList _ (j := .listErase 0) rfl)
  unfold State.takeListBegin
  split
  case h_4 | h_5 =>
    split
    · exact .refl s
    · exact begun
  all_goals exact .refl s

/-- A commit is created with its closing flush inside the bank (R163, R164). -/
theorem State.takeListCommit_keepsList : KeepsList s s.takeListCommit.1 := by
  have emptied : KeepsList s (s.withDeny (s.deny.emptyBuffer.setStandby .committing)) :=
    s.withDeny_keepsList ⟨rfl, fun _ hb => (nomatch hb), Nat.le_refl _⟩ rfl
  have inRange (h : BankSpared s) : Job.inRange (.commit s.deny.closingFlush) = true := by
    unfold DenyUnit.closingFlush
    cases hb : s.deny.buffer with
    | none => rfl
    | some b => exact Buffer.flush_inRange (h.buffer b hb) { entries := b.entries, next := none }
  unfold State.takeListCommit
  split
  · exact .refl s
  · split
    · exact .refl s
    · split
      · exact .refl s
      · exact ⟨(State.arbitrate_keepsList _).lookups ∘ emptied.lookups,
          fun h => (State.createJob_keepsList _ (inRange h)).bank (emptied.bank h)⟩

/-! ## The restarts -/

/-- A queue without lookups. -/
theorem LookupLaw.of_empty {s : State} (h : s.deny.queue = []) : LookupLaw s := by
  simp [LookupLaw, h]

/-- The keep unit changed to a condition of the part that is no cold start. -/
theorem State.withKeep_keepsList {k : Keep} (h : ∀ stage, k.run ≠ .coldStart stage) : KeepsList s (s.withKeep k) :=
  ⟨id, Spares.law ⟨.refl _, .refl _, fun stage hr => absurd hr (h stage)⟩⟩

/-- The keep unit changed with the part in the same condition. -/
theorem State.withKeep_apart {k : Keep} (h : k.run = s.keep.run) : Apart s (s.withKeep k) := .of_eq h rfl rfl rfl

theorem Lane.abandonTake_ctx (x : Lane) : x.abandonTake.ctx = x.ctx := by
  unfold Lane.abandonTake
  split <;> rfl

theorem State.abandonLinks_apart : Apart s s.abandonLinks :=
  Apart.trans (t := s.dropReply) (.of_eq rfl rfl rfl rfl)
    (State.mapLanes_apart _ fun x _ h => x.abandonTake_ctx.symm ▸ h)

theorem PortSpares.stopped (p : FlashPort) : PortSpares p p.stopped :=
  ⟨fun _ ho => .inr (Option.some.inj ho ▸ rfl), fun _ he => (nomatch he), fun _ hj => (nomatch hj)⟩

/-- Step 1 of a warm restart empties the queue and stops the port (R170, R186). -/
theorem State.beginWarm_keepsList (cause : ResetCause) : KeepsList s (s.beginWarm cause) :=
  ⟨fun _ => .of_empty rfl,
    Spares.law ⟨.of_eq rfl rfl rfl, .stopped s.port, fun _ hr => (nomatch hr)⟩⟩

/-- A cold start begins with the reset operation alone at the flash (R220). -/
theorem State.beginCold_keepsList (cause : ResetCause) : KeepsList s (s.beginCold cause) := by
  have reset (o : FlashOp) (ho : (s.beginCold cause).port.op = some o) : o = .reset := (Option.some.inj ho).symm
  refine ⟨fun _ => .of_empty rfl, fun _ => ⟨fun o ho => ?_, fun _ he => (nomatch he), fun _ _ _ => rfl,
    fun _ hj => (nomatch hj), fun _ hb => (nomatch hb), Nat.zero_le _, fun _ _ => ⟨rfl, fun o ho k => ?_⟩⟩⟩
  all_goals
    rw [reset o ho]
    rfl

theorem State.beginRestart_keepsList (begun : ResetCause) : KeepsList s (s.beginRestart begun) := by
  unfold State.beginRestart
  split
  · exact s.beginWarm_keepsList _
  · exact s.beginCold_keepsList _

theorem State.release_keepsList : KeepsList s s.release := by
  unfold State.release
  split
  · split
    · exact s.beginRestart_keepsList _
    · exact .refl s
  all_goals exact .refl s

theorem State.enterHold_keepsList : KeepsList s s.enterHold := by
  unfold State.enterHold
  split
  · exact .refl s
  all_goals exact s.abandonLinks_apart.keepsList.trans (State.withKeep_keepsList _ fun _ h => (nomatch h))

theorem Context.discardRefuse_waits (c : Context) (id : TokenId) (h : c.waitsFor id = true) :
    c.discardRefuse.waitsFor id = true := by
  cases c with
  | refused => cases h
  | free | waiting | offer => exact h

theorem State.withTaps_apart (x : List TapEntry) : Apart s (s.withTaps x) := .of_eq rfl rfl rfl rfl

theorem State.takeAllInFlight_apart (b : BerthId) : Apart s (s.takeAllInFlight b) := s.updCall_apart b _

theorem State.endRestartHoldings_apart : Apart s s.endRestartHoldings := by
  have lanes : Apart s ((s.endEveryHolding LaneId.list).withLanes
      ((s.endEveryHolding LaneId.list).lanes.map fun x => { x with ctx := x.ctx.discardRefuse })) :=
    (s.endEveryHolding_apart LaneId.list).trans
      (State.mapLanes_apart _ fun x id h => x.ctx.discardRefuse_waits id h)
  have berths := (lanes.trans (State.takeAllInFlight_apart _ .berthA)).trans (State.takeAllInFlight_apart _ .berthB)
  exact berths.trans (State.withTaps_apart _ _)

theorem PortSpares.restarted (p : FlashPort) (rebuild : Bool) : PortSpares p (p.restarted rebuild) := by
  refine ⟨fun _ => .inl, fun e he => ⟨e, he, rfl⟩, fun j hj => ?_⟩
  cases rebuild with
  | false => cases hj
  | true => exact .inr (Option.some.inj hj ▸ rfl)

theorem UnitSpares.restarted (d : DenyUnit) : UnitSpares d d.restarted := by
  unfold DenyUnit.restarted
  dsimp only
  split
  case h_1 | h_2 => exact .of_eq rfl rfl rfl
  all_goals exact ⟨rfl, fun _ hb => (nomatch hb), Nat.zero_le _⟩

theorem DenyUnit.restarted_queue (d : DenyUnit) : d.restarted.queue = [] := by
  unfold DenyUnit.restarted
  dsimp only
  split <;> rfl

/-- Step 4 leaves the port nothing but the rebuild scan to go on with (R170, R186). -/
theorem State.restartRest_keepsList : KeepsList s s.restartRest := by
  have lanes : Apart s (s.withLanes (s.lanes.map fun x => x.startConditioner s.now)) :=
    s.mapLanes_apart fun _ _ => id
  have rest (t : State) (h : Apart s t) :
      KeepsList s ((t.withDeny s.deny.restarted).withPort (s.port.restarted s.deny.rebuild.isSome)) :=
    ⟨fun _ => .of_empty s.deny.restarted_queue,
      Spares.law (.of_parts h.run (.restarted s.deny) (.restarted s.port s.deny.rebuild.isSome))⟩
  have restarted := rest _ lanes
  unfold State.restartRest
  dsimp only
  split <;> split
  · exact .settingsDone (.listDone restarted)
  · exact .settingsDone restarted
  · exact .listDone restarted
  · exact restarted

theorem State.endRestart_keepsList : KeepsList s s.endRestart := by
  have day : Apart s s.handWaitingDay := by
    unfold State.handWaitingDay
    split <;> exact .of_eq rfl rfl rfl rfl
  have running : KeepsList s.handWaitingDay
      (s.handWaitingDay.withKeep { s.keep with run := .running, mark := .unmarked, dayChange := false }) :=
    State.withKeep_keepsList _ fun _ h => (nomatch h)
  exact ((day.keepsList.trans running).trans (State.latchRestarted_apart _).keepsList).trans
    (State.arbitrate_keepsList _)

theorem State.warmStep_keepsList (next : WarmStage) : KeepsList s (s.warmStep next) := by
  have staged (t : State) (stage : WarmStage) : KeepsList t (t.warmStage stage) :=
    t.withKeep_keepsList fun _ h => (nomatch h)
  cases next with
  | suspendCalls =>
    exact ((s.updCall_apart .berthA _).trans (State.updCall_apart _ .berthB _)).keepsList.trans (staged _ _)
  | endHoldings => exact s.endRestartHoldings_apart.keepsList.trans (staged _ _)
  | restartRest => exact s.restartRest_keepsList.trans (staged _ _)
  | record => exact (s.takeAsked_apart.trans (State.appendUnreserved_apart _ _)).keepsList.trans (staged _ _)
  | finish => exact s.endRestart_keepsList

/-! ## The cold start -/

/-- The settings load changes no context and nothing the port writes (R185). -/
theorem State.loadSettings_keepsList (img : Option SettingsCopy) : KeepsList s (s.loadSettings img) := by
  cases img with
  | none => exact .refl s
  | some v =>
    have lane (l : LaneId) : ((s.loadSettings (some v)).lane l).ctx = (s.lane l).ctx := by cases l <;> rfl
    exact ⟨Settled.law ⟨.refl _, fun q _ h => (lane q.1).symm ▸ h⟩,
      Spares.law (.of_parts rfl (.refl _) (.of_op rfl rfl fun _ => .inl))⟩

variable {s} {stage : ColdStage} (hc : s.keep.run = .coldStart stage)
include hc

/-- The next read of a cold start (R185). -/
theorem State.coldStage_keepsList (next : ColdStage) (page : Nat) :
    KeepsList s (s.coldStage next (startUpRead page)) := by
  have read (o : FlashOp) (ho : startUpRead page = some o) : o.readsOnly = true := Option.some.inj ho ▸ rfl
  exact ⟨id, Spares.law ⟨.refl _, .of_op rfl rfl fun o ho => .inr (read o ho), fun _ _ => .inl ⟨stage, hc⟩⟩⟩

/-- The bank is chosen with an operation at the flash that writes neither, and no held erase (R166, R220). -/
theorem State.finishCold_keepsList (a b : Option Nat) {op : Option FlashOp} (hop : op = none ∨ op = s.port.op) :
    KeepsList s (s.finishCold a b op) := by
  refine KeepsList.trans ⟨?_, fun h => ?_⟩ (State.arbitrate_keepsList _)
  · exact (State.mapLanes_apart s (f := fun x => x.startConditioner s.now) fun _ _ => id).settled.law
  · obtain ⟨held, writes⟩ := h.cold stage hc
    have spares (o : FlashOp) (ho : op = some o) (k : Bank) : o.writesBank k = false := by
      rcases hop with none | same
      · cases none.symm.trans ho
      · exact writes o (same ▸ ho) k
    have job (j : Job) (hj : (if (s.deny.choose a b).noList then none else some Job.rebuild) = some j) :
        j.inRange = true := by
      split at hj <;> cases hj
      rfl
    exact ⟨fun o ho => spares o ho _, fun _ hh => (nomatch held.symm.trans hh), fun _ _ _ => held, job, h.buffer,
      h.overflow, fun _ hr => (nomatch hr)⟩

theorem State.finishUnread_keepsList {op : Option FlashOp} (hop : op = none ∨ op = s.port.op) :
    KeepsList s (s.finishUnread op) :=
  KeepsList.trans (t := s.countUnread) (Apart.keepsList (.of_eq rfl rfl rfl rfl))
    (State.finishCold_keepsList (s := s.countUnread) hc none none hop)

theorem State.afterImage_keepsList (img : Option SettingsCopy) : KeepsList s (s.afterImage img) := by
  have cold : (s.loadSettings img).keep.run = .coldStart stage := by cases img <;> exact hc
  exact (s.loadSettings_keepsList img).trans (State.coldStage_keepsList cold _ _)

theorem State.afterContent_keepsList (pages : List Page) : KeepsList s (s.afterContent pages) := by
  unfold State.afterContent
  split
  · exact State.coldStage_keepsList hc _ _
  · exact State.afterImage_keepsList hc _

theorem State.coldRead_keepsList (res : PageResult) (at_ : ColdStage) : KeepsList s (s.coldRead res at_) := by
  cases at_ with
  | flashReset => exact .refl s
  | imageHeader =>
    show KeepsList s (if imageHeaderValid res then s.afterContent [] else s.afterImage none)
    split
    · exact State.afterContent_keepsList hc _
    · exact State.afterImage_keepsList hc _
  | imageContent pages =>
    cases res with
    | good p => exact State.afterContent_keepsList hc _
    | erased | unreadable => exact State.afterImage_keepsList hc _
  | bankHeaderA => exact State.coldStage_keepsList hc _ _
  | bankHeaderB a => exact State.finishCold_keepsList hc _ _ (.inl rfl)

end

end Sys2Proof.Machine
end

section
/-!
PROOF. Every command and every step keeps the laws of the lookups and of the banks (R152, R154, R156).
-/
namespace Sys2Proof.Machine

/-! ## How an event reaches its block -/

/-- The outcome of a command is a state that keeps the two laws. -/
def OutcomeKeepsList (s : State) (o : Host.Outcome State Fault Refusal) : Prop := ∀ t, o = .next t → KeepsList s t

namespace KeepsList

theorem next {s u : State} (h : KeepsList s u) : OutcomeKeepsList s (.next u) := fun t ht => by
  cases ht; exact h

theorem whenRunning {s : State} {f : State → State} (h : s.keep.run = .running → KeepsList s (f s)) :
    OutcomeKeepsList s (.next (s.whenRunning f)) := by
  refine next ?_
  unfold State.whenRunning
  split
  case isTrue hr => exact h (s.running_iff.mp hr)
  case isFalse => exact .refl s

theorem onLane {s : State} {l : LaneId} {f : State → State} (h : KeepsList s (f s)) :
    OutcomeKeepsList s (.next (s.onLane l f)) := by
  refine whenRunning fun _ => ?_
  split
  · exact .refl s
  · exact h

theorem onDock {α : Type} {s : State} {b : BerthId} {fields : Fields α} {f : α → State → State × DockReply}
    (h : ∀ (a : α) (t : State), KeepsList t (f a t).1) : OutcomeKeepsList s (.next (s.onDock b fields f)) := by
  have heard : Apart s (s.updCall b fun c => c.heard s.now) := s.updCall_apart b _
  have replied (t : State) (r : DockReply) : Apart t (t.replyDock b r) := .of_eq rfl rfl rfl rfl
  refine whenRunning fun _ => ?_
  cases fields with
  | misfit => exact (heard.trans (replied _ _)).keepsList
  | fit a => exact (heard.keepsList.trans (h a _)).trans (replied _ _).keepsList

theorem onTransfer {s : State} {f : State → State} (h : KeepsList s.collect (f s.collect)) :
    OutcomeKeepsList s (.next (s.onTransfer f)) := by
  have collected : Apart s s.collect := .of_eq rfl rfl rfl rfl
  refine next ?_
  unfold State.onTransfer
  split
  · exact collected.keepsList.trans h
  all_goals exact Apart.keepsList (.of_eq rfl rfl rfl rfl)

theorem onStation {α : Type} {s : State} {cmd : Command} {fields : Fields α} {f : α → State → State × Answer}
    (h : ∀ (a : α) (t : State), KeepsList t (f a t).1) :
    OutcomeKeepsList s (.next (s.onStation cmd fields f)) := by
  have replied (t : State) (r : StationReply) : KeepsList t (t.setReply r) := Apart.keepsList (.of_eq rfl rfl rfl rfl)
  refine onTransfer ?_
  cases fields with
  | misfit => exact replied _ _
  | fit a => exact (h a _).trans (replied _ _)

theorem onLaneCode {code : Nat} {s : State} {f : LaneId → State × Answer} (h : ∀ l, KeepsList s (f l).1) :
    KeepsList s (Machine.onLaneCode code s f).1 := by
  unfold Machine.onLaneCode
  split
  · exact h _
  · exact .refl s

theorem onBerthCode {code : Nat} {s : State} {f : BerthId → State × Answer} (h : ∀ b, KeepsList s (f b).1) :
    KeepsList s (Machine.onBerthCode code s f).1 := by
  unfold Machine.onBerthCode
  split
  · exact h _
  · exact .refl s

/-- A change of the clock, the berths, the fare table or the station port. -/
theorem of_eq {s t : State} (run : t.keep.run = s.keep.run) (deny : t.deny = s.deny) (port : t.port = s.port)
    (lanes : t.lanes = s.lanes) : KeepsList s t := (Apart.of_eq run deny port lanes).keepsList

end KeepsList

section
variable (s : State) (l : LaneId) (b : BerthId)

/-! ## The lanes and the berths -/

theorem execTap_keepsList (fields : List Byte) : OutcomeKeepsList s (execTap l fields s) := by
  refine .onLane ?_
  split
  · exact ((s.countLane_apart l _).trans (State.replyLane_apart _ l _)).keepsList
  · exact s.takeTap_keepsList l _

theorem execTake_keepsList : OutcomeKeepsList s (execTake l s) := by
  refine .onLane ?_
  split
  · exact (s.updLane_apart l (f := fun x => { x with takeHeld := true, reply := none }) fun _ => id).keepsList
  all_goals exact (s.updLane_apart l fun id => Lane.answerTake_waits _ s.now id).keepsList

theorem execWroteOk_keepsList : OutcomeKeepsList s (execWroteOk l s) := by
  refine .onLane ?_
  split
  · exact (s.replyLane_apart l _).keepsList
  · exact (s.updLane_apart l (f := fun x => { x.writeEnded .confirmed s.now with reply := some .wroteOk })
      fun _ => id).keepsList

theorem execWroteFailed_keepsList : OutcomeKeepsList s (execWroteFailed l s) := by
  refine .onLane ?_
  split
  · exact (s.replyLane_apart l _).keepsList
  · exact ((s.voidEntry_apart l _ _ .writeFailed).trans (State.replyLane_apart _ l _)).keepsList

theorem execLaneBadFrame_keepsList : OutcomeKeepsList s (execLaneBadFrame l s) :=
  .onLane ((s.countLane_apart l _).trans (State.replyLane_apart _ l _)).keepsList

theorem execSilenceDeadline_keepsList : OutcomeKeepsList s (execSilenceDeadline b s) := by
  refine .whenRunning fun _ => ?_
  split
  · exact .refl s
  · split
    · exact (s.setCall_apart b _).keepsList
    · exact .refl s

theorem execClosingDeadline_keepsList : OutcomeKeepsList s (execClosingDeadline b s) := by
  refine .whenRunning fun _ => ?_
  split
  · exact .refl s
  · split
    · exact ((s.releaseHoldings_apart b .closed).trans (State.updCall_apart _ b _)).keepsList
    · exact .refl s

theorem execRawLevelChange_keepsList (level : Level) : OutcomeKeepsList s (execRawLevelChange l level s) := by
  refine .next ?_
  split
  · exact .refl s
  · split
    · exact (s.updLane_apart l
        (f := fun x => { x with cond := x.cond.rawChange level s.now x.settings.debounce }) fun _ => id).keepsList
    · exact (s.updLane_apart l (f := fun x => { x with cond := { x.cond with raw := level } }) fun _ => id).keepsList

/-- A lane's conditioner changed. -/
theorem State.updCond_apart (f : Conditioner → Conditioner) :
    Apart s (s.updLane l fun x => { x with cond := f x.cond }) :=
  s.updLane_apart l (f := fun x => { x with cond := f x.cond }) fun _ => id

theorem execDebounceDeadline_keepsList : OutcomeKeepsList s (execDebounceDeadline l s) := by
  refine .whenRunning fun _ => ?_
  split
  · split
    · exact (s.updCond_apart l fun c => c.acceptOccupied s.now).keepsList
    · have accepted := s.updCond_apart l Conditioner.acceptClear
      dsimp only
      split
      · exact accepted.keepsList.trans (.of_eq rfl rfl rfl rfl)
      · exact (accepted.trans (State.takePassage_apart _ l)).keepsList
  · exact .refl s

theorem execBlockedDeadline_keepsList : OutcomeKeepsList s (execBlockedDeadline l s) := by
  refine .whenRunning fun _ => ?_
  split
  · exact (s.updCond_apart l fun c => { c with blocked := true, blockedDeadline := none }).keepsList.trans
      (.of_eq rfl rfl rfl rfl)
  · exact .refl s

/-- The deadline's lane has its lookup withdrawn before the policy decides (R118, R154). -/
theorem execVerdictDeadline_keepsList : OutcomeKeepsList s (execVerdictDeadline l s) := by
  refine .whenRunning fun _ => ?_
  split
  · split
    · rename_i e d hctx hd
      have counted := State.countLane_apart (s.withdrawLookup l) l
        fun x => { x with deadlineDecisions := bump x.deadlineDecisions }
      exact Quiet.keepsList
        (((s.withdrawLookup_quiet l).trans (State.countLane_quiet _ l _)).trans (State.applyPolicy_quiet _ l e))
        (((s.withdrawLookup_settled l).trans counted.settled).trans
          (State.applyPolicy_settled (counted.lookups ▸ s.withdrawLookup_free l) e))
    · exact .refl s
  all_goals exact .refl s

theorem execTakeDeadline_keepsList : OutcomeKeepsList s (execTakeDeadline l s) := by
  refine .whenRunning fun _ => ?_
  split
  case h_1 hc =>
    split
    · exact (s.dropOffer_apart l hc).keepsList
    · exact .refl s
  all_goals exact .refl s

theorem execWriteDeadline_keepsList : OutcomeKeepsList s (execWriteDeadline l s) := by
  refine .whenRunning fun _ => ?_
  split
  · split
    · exact (s.updLane_apart l (f := fun x => x.writeEnded .unconfirmed s.now) fun _ => id).keepsList
    · exact .refl s
  · exact .refl s

theorem execPassageDeadline_keepsList (which : WhichEntry) :
    OutcomeKeepsList s (execPassageDeadline l which s) := by
  refine .whenRunning fun _ => ?_
  split
  · split
    · exact (s.voidEntry_apart l _ _ .noPassage).keepsList
    · exact .refl s
  · exact .refl s

theorem execCalendarSecond_keepsList : OutcomeKeepsList s (execCalendarSecond s) := by
  refine .next ?_
  split
  · rename_i t _
    split
    · have taken : Apart s (s.withClock (s.clock.takeSecond t)) := .of_eq rfl rfl rfl rfl
      dsimp only
      split
      · exact taken.keepsList
      · exact (taken.trans (State.handDay_apart _ _)).keepsList
    · exact .refl s
  · exact .refl s

/-! ## The list flash port -/

theorem execPortGrant_keepsList : OutcomeKeepsList s (execPortGrant s) := by
  refine .whenRunning fun hr => ?_
  split
  · exact .refl s
  · exact s.arbitrate_keepsList.trans (s.arbitrate.carryOut_keepsList hr)

theorem execSuspendIssue_keepsList : OutcomeKeepsList s (execSuspendIssue s) := by
  refine .whenRunning fun hr => ?_
  split
  case h_1 ho =>
    split
    · exact s.suspend_keepsList hr ho
    · exact .refl s
  case h_2 => exact .refl s

theorem execSuspendEnd_keepsList (status : SuspendStatus) : OutcomeKeepsList s (execSuspendEnd status s) := by
  refine .whenRunning fun _ => ?_
  split
  · exact (s.suspendEnded_keepsList status).trans (State.arbitrate_keepsList _)
  · exact .refl s

theorem execPageReadEnd_keepsList (reads : FlashReads) : OutcomeKeepsList s (execPageReadEnd reads s) := by
  refine .next ?_
  split
  case h_1 =>
    exact ((s.endRead_keepsList reads).trans (State.readEnded_keepsList _ _ _)).trans (State.arbitrate_keepsList _)
  case h_2 stage _ hc _ =>
    have cold : (s.endRead reads).keep.run = .coldStart stage := hc
    exact (s.endRead_keepsList reads).trans (State.coldRead_keepsList cold _ _)
  case h_3 => exact .refl s

theorem execPageProgramEnd_keepsList (good : Bool) : OutcomeKeepsList s (execPageProgramEnd good s) := by
  refine .whenRunning fun hr => ?_
  split
  case h_1 ho =>
    refine KeepsList.trans ?_ (State.arbitrate_keepsList _)
    split
    · exact s.failJob_reset_keepsList
    · exact s.programEnded_keepsList hr ho rfl good
  case h_2 => exact .refl s

theorem execSectorEraseEnd_keepsList (good : Bool) : OutcomeKeepsList s (execSectorEraseEnd good s) := by
  refine .whenRunning fun _ => ?_
  split
  · refine KeepsList.trans ?_ (State.arbitrate_keepsList _)
    split
    · exact s.failJob_reset_keepsList
    · exact s.eraseEnded_keepsList good
  · exact .refl s

theorem execFlashResetEnd_keepsList : OutcomeKeepsList s (execFlashResetEnd s) := by
  refine .next ?_
  split
  case h_1 => exact s.endOp_keepsList.trans (State.arbitrate_keepsList _)
  case h_2 => exact s.endOp_keepsList
  case h_3 hc =>
    split
    · exact State.finishUnread_keepsList hc (.inl rfl)
    · exact State.coldStage_keepsList hc _ _
  case h_4 => exact .refl s

theorem execOperationTimeLimit_keepsList : OutcomeKeepsList s (execOperationTimeLimit s) := by
  refine .whenRunning fun _ => ?_
  split
  case h_1 =>
    split
    · exact s.failJob_reset_keepsList
    · exact .refl s
  case h_2 | h_3 => exact s.actLimit_keepsList
  all_goals exact .refl s

theorem execFlashReadyTimeout_keepsList : OutcomeKeepsList s (execFlashReadyTimeout s) := by
  refine .next ?_
  split
  case h_1 hc =>
    split
    · exact State.finishUnread_keepsList hc (.inr rfl)
    · exact .refl s
  case h_2 => exact .refl s

/-! ## The pins, the supplies and RESTART -/

theorem execResetInputAssert_keepsList : OutcomeKeepsList s (execResetInputAssert s) := by
  refine .next ?_
  split
  · exact .refl s
  · exact s.enterHold_keepsList.trans (.of_eq rfl rfl rfl rfl)

theorem execResetInputRelease_keepsList : OutcomeKeepsList s (execResetInputRelease s) := by
  refine .next ?_
  split
  · exact (State.withKeep_apart s (k := { s.keep with resetInput := false }) rfl).keepsList.trans
      (State.release_keepsList _)
  · exact .refl s

theorem execCoreSupplyRise_keepsList (low : Bool) : OutcomeKeepsList s (execCoreSupplyRise low s) := by
  refine .next ?_
  split
  · exact .refl s
  · refine KeepsList.trans ?_ (State.release_keepsList _)
    cases low with
    | false => exact .of_eq rfl rfl rfl rfl
    | true => exact s.withKeep_keepsList fun _ h => (nomatch h)

theorem execCoreSupplyFall_keepsList : OutcomeKeepsList s (execCoreSupplyFall s) := by
  refine .next ?_
  split
  · exact s.enterHold_keepsList.trans (.of_eq rfl rfl rfl rfl)
  · exact .refl s

theorem execRestart_keepsList (fields : Fields Unit) : OutcomeKeepsList s (execRestart fields s) := by
  refine .onTransfer ?_
  cases fields with
  | misfit => exact .of_eq rfl rfl rfl rfl
  | fit => exact State.beginRestart_keepsList _ _

/-! ## The commands of the station port -/

theorem execReadStats_keepsList (fields : Fields Bool) : OutcomeKeepsList s (execReadStats fields s) := by
  refine .onStation fun clear t => ?_
  dsimp only
  split
  · have lanes : Apart t (t.withLanes (t.lanes.map fun x => { x with stats := LaneStats.zero })) :=
      t.mapLanes_apart fun _ _ => id
    exact lanes.keepsList.trans (.of_eq rfl rfl rfl rfl)
  · exact .refl t

theorem execSetLane_keepsList (fields : Fields LaneArgs) : OutcomeKeepsList s (execSetLane fields s) := by
  refine .onStation fun _ t => .onLaneCode fun l => ?_
  split
  · split
    · exact (t.setRole_apart l _ _).keepsList
    · exact .refl t
  · exact .refl t

theorem execSetLanding_keepsList (fields : Fields LandingArgs) : OutcomeKeepsList s (execSetLanding fields s) := by
  refine .onStation fun a t => ?_
  split
  · exact .of_eq rfl rfl rfl rfl
  · exact .refl t

theorem execWriteFare_keepsList (fields : Fields WriteFareArgs) : OutcomeKeepsList s (execWriteFare fields s) := by
  refine .onStation fun a t => ?_
  split
  · split
    · exact .of_eq rfl rfl rfl rfl
    · exact .refl t
  · exact .refl t

theorem execStagePlan_keepsList (fields : Fields PlanArgs) : OutcomeKeepsList s (execStagePlan fields s) := by
  refine .onStation fun a t => .onBerthCode fun b => ?_
  split
  · exact (t.setBerth_apart b _).keepsList
  · exact .refl t

theorem execListAdd_keepsList (fields : Fields (List AddEntry)) : OutcomeKeepsList s (execListAdd fields s) := by
  refine .onStation fun a t => ?_
  split
  · split
    · exact t.addToList_keepsList _
    · exact .refl t
  · exact .refl t

theorem execStoreSettings_keepsList (fields : Fields Unit) : OutcomeKeepsList s (execStoreSettings fields s) := by
  refine .onStation fun _ t => ?_
  split
  · exact .refl t
  · have storing : PortSpares t.port { t.port with store := .storing } := .of_op rfl rfl fun _ => .inl
    exact (t.withPort_keepsList storing).trans (State.createJob_keepsList _ rfl)

end

/-! ## The step -/

/-- Every command keeps the two laws. -/
theorem exec_keepsList (i : Instr) (s : State) : OutcomeKeepsList s (exec i s) := by
  cases i with
  | tap l fields => exact execTap_keepsList s l fields
  | take l => exact execTake_keepsList s l
  | wroteOk l => exact execWroteOk_keepsList s l
  | wroteFailed l => exact execWroteFailed_keepsList s l
  | laneStatus l => exact .onLane (s.replyLane_apart l _).keepsList
  | laneBadFrame l => exact execLaneBadFrame_keepsList s l
  | laneUnknownMessage l => exact .onLane (s.replyLane_apart l _).keepsList
  | arrive b fields => exact .onDock fun a t => (t.takeArrive_apart b a).keepsList
  | rampOpen b fields => exact .onDock fun _ t => (t.takeRampOpen_apart b).keepsList
  | countQuery b fields => exact .onDock fun _ t => .refl t
  | departReq b fields => exact .onDock fun _ t => (t.takeDepartReq_apart b).keepsList
  | handoverTaken b fields => exact .onDock fun _ t => (t.takeHandover_apart b).keepsList
  | dockBadFrame b => exact .whenRunning fun _ => .of_eq rfl rfl rfl rfl
  | dockUnknownMessage b => exact .onDock fun _ t => .refl t
  | silenceDeadline b => exact execSilenceDeadline_keepsList s b
  | closingDeadline b => exact execClosingDeadline_keepsList s b
  | berthCommit b l => exact .whenRunning fun _ => (s.takeFromLane_apart l b _).keepsList
  | berthRelease b l => exact .whenRunning fun _ => (s.takeFromLane_apart l b _).keepsList
  | rawLevelChange l level => exact execRawLevelChange_keepsList s l level
  | debounceDeadline l => exact execDebounceDeadline_keepsList s l
  | blockedDeadline l => exact execBlockedDeadline_keepsList s l
  | verdictDeadline l => exact execVerdictDeadline_keepsList s l
  | takeDeadline l => exact execTakeDeadline_keepsList s l
  | writeDeadline l => exact execWriteDeadline_keepsList s l
  | passageDeadline l which => exact execPassageDeadline_keepsList s l which
  | calendarSecond => exact execCalendarSecond_keepsList s
  | readStatus fields => exact .onStation fun _ t => .of_eq rfl rfl rfl rfl
  | readStats fields => exact execReadStats_keepsList s fields
  | setClock fields => exact .onStation fun a t => (t.takeSetClock_apart a).keepsList
  | setLane fields => exact execSetLane_keepsList s fields
  | setLanding fields => exact execSetLanding_keepsList s fields
  | writeFare fields => exact execWriteFare_keepsList s fields
  | readFare fields => exact .onStation fun _ t => .refl t
  | stagePlan fields => exact execStagePlan_keepsList s fields
  | cancelPlan fields => exact .onStation fun _ t => .onBerthCode fun b => .of_eq rfl rfl rfl rfl
  | setCap fields => exact .onStation fun _ t => .onBerthCode fun b => (t.takeSetCap_apart b _).keepsList
  | closeBerth fields => exact .onStation fun _ t => .onBerthCode fun b => (t.takeClose_apart b).keepsList
  | reopenBerth fields => exact .onStation fun _ t => .onBerthCode fun b => (t.takeReopen_apart b).keepsList
  | forceVacate fields => exact .onStation fun _ t => .onBerthCode fun b => (t.takeVacate_apart b).keepsList
  | laneClear fields => exact .onStation fun _ t => .onLaneCode fun l => t.takeClear_keepsList l
  | listBegin fields => exact .onStation fun _ t => t.takeListBegin_keepsList
  | listAdd fields => exact execListAdd_keepsList s fields
  | listCommit fields => exact .onStation fun _ t => t.takeListCommit_keepsList
  | logPeek fields => exact .onStation fun _ t => .refl t
  | logDrop fields => exact .onStation fun a t => (t.takeDrop_apart a).keepsList
  | storeSettings fields => exact execStoreSettings_keepsList s fields
  | restart fields => exact execRestart_keepsList s fields
  | rttQuery fields => exact .onStation fun _ t => .refl t
  | emptyFrame => exact .onTransfer (.refl _)
  | stationBadFrame => exact .onTransfer (.of_eq rfl rfl rfl rfl)
  | stationUnknownCommand kind => exact .onTransfer (.of_eq rfl rfl rfl rfl)
  | portGrant => exact execPortGrant_keepsList s
  | suspendIssue => exact execSuspendIssue_keepsList s
  | suspendEnd status => exact execSuspendEnd_keepsList s status
  | pageReadEnd reads => exact execPageReadEnd_keepsList s reads
  | pageProgramEnd good => exact execPageProgramEnd_keepsList s good
  | sectorEraseEnd good => exact execSectorEraseEnd_keepsList s good
  | flashResetEnd => exact execFlashResetEnd_keepsList s
  | operationTimeLimit => exact execOperationTimeLimit_keepsList s
  | resetInputAssert => exact execResetInputAssert_keepsList s
  | resetInputRelease => exact execResetInputRelease_keepsList s
  | coreSupplyRise low => exact execCoreSupplyRise_keepsList s low
  | coreSupplyFall => exact execCoreSupplyFall_keepsList s
  | retentionSupplyDip => exact KeepsList.next (.of_eq rfl rfl rfl rfl)
  | flashReadyTimeout => exact execFlashReadyTimeout_keepsList s

/-- One millisecond keeps them (log 2). -/
theorem State.tick_keepsList (s : State) : KeepsList s s.tick := by
  have passed : Apart s s.passTime := .of_eq rfl rfl rfl rfl
  unfold State.tick
  split
  case h_1 => exact (passed.trans (State.takeAsked_apart _)).keepsList
  case h_2 => exact passed.keepsList
  case h_3 => exact passed.keepsList.trans (State.warmStep_keepsList _ _)
  case h_4 hc => exact ⟨id, Spares.law ⟨.refl _, .refl _, fun _ _ => .inl ⟨_, hc⟩⟩⟩
  case h_5 => exact .refl s

/-- Every step keeps them. -/
theorem step_keepsList {s t : State} (h : step s = .next t) : KeepsList s t := by
  unfold step at h
  split at h
  · cases h
    exact s.tick_keepsList
  · rename_i c rest _
    exact KeepsList.trans (t := s.withPending rest) (.of_eq rfl rfl rfl rfl)
      (exec_keepsList c (s.withPending rest) t h)

/-- Settles O11, with an invariant of the whole step: a lookup is queued only for a lane that has none, and a lane that
stops waiting has none left. -/
theorem everyStepKeepsTheLookupQueue : Obligations.EveryStepKeepsTheLookupQueue := by
  unfold Obligations.EveryStepKeepsTheLookupQueue
  exact fun s t hs h => (step_keepsList h).lookups hs

/-- Settles O13: what is programmed or erased lies in the standby bank or the settings image, and a commit switches banks
with an idle port. -/
theorem everyStepSparesTheActiveBank : Obligations.EveryStepSparesTheActiveBank := by
  unfold Obligations.EveryStepSparesTheActiveBank
  exact fun s t hs h => (activeBankLaw_iff t).mpr ((step_keepsList h).bank ((activeBankLaw_iff s).mp hs))

end Sys2Proof.Machine
end

section
/-!
PROOF. The bucket index (R146): the five slices of a token id as numbers, and who uses them.
-/
namespace Sys2Proof.Machine

/-- A slice of twelve bits, as a number. -/
theorem tokenSlice_toNat (id : TokenId) (start : Nat) :
    (id.extractLsb' start 12).toNat = id.toNat / 2 ^ start % 4096 := by
  rw [BitVec.extractLsb'_toNat, Nat.shiftRight_eq_div_pow]

/-- The topmost slice has eight bits, all that is left of the id. -/
theorem tokenTopSlice_toNat (id : TokenId) : ((id.extractLsb' 48 8).setWidth 12).toNat = id.toNat / 2 ^ 48 := by
  have top : id.toNat / 2 ^ 48 < 256 := Nat.div_lt_of_lt_mul id.isLt
  rw [BitVec.toNat_setWidth, BitVec.extractLsb'_toNat, Nat.shiftRight_eq_div_pow, Nat.mod_eq_of_lt top,
    Nat.mod_eq_of_lt (Nat.lt_trans top (by decide))]

theorem bucketOf_eq_slices (id : TokenId) :
    bucketOf id = (id.toNat % 4096) ^^^ (id.toNat / 2 ^ 12 % 4096) ^^^ (id.toNat / 2 ^ 24 % 4096)
      ^^^ (id.toNat / 2 ^ 36 % 4096) ^^^ (id.toNat / 2 ^ 48) := by
  have lowest : (id.extractLsb' 0 12).toNat = id.toNat % 4096 := by rw [tokenSlice_toNat, pow_zero, Nat.div_one]
  simp only [bucketOf, BitVec.toNat_xor, lowest, tokenSlice_toNat, tokenTopSlice_toNat]

/-- With a list, the filter test asks for the bucket's bit (R151). -/
theorem DenyUnit.filterTest_bitSet {d : DenyUnit} (h : d.noList = false) (id : TokenId) :
    d.filterTest id = .bitSet ↔ d.activeFilter.getLsbD (bucketOf id) = true := by
  cases hb : d.activeFilter.getLsbD (bucketOf id) <;> simp [DenyUnit.filterTest, h, hb]

/-- Settles O15, by the slices as numbers. -/
theorem bucketIndexFoldsFiveSlices : Obligations.BucketIndexFoldsFiveSlices := by
  unfold Obligations.BucketIndexFoldsFiveSlices
  exact ⟨fun id => ⟨bucketOf_lt id, bucketOf_eq_slices id⟩, fun _ _ => ⟨rfl, rfl⟩,
    fun _ id h => DenyUnit.filterTest_bitSet h id, fun _ _ _ => ⟨rfl, rfl⟩⟩

end Sys2Proof.Machine
end

section
/-!
PROOF. A cold start at the flash (R166, R185, R214, R220): what a transfer meets outside of running, where each start-up
read leads, and what the end of the cold start leaves.
-/
namespace Sys2Proof.Machine

/-! ## A transfer while the part does not run -/

/-- A transfer shifts out idle bytes (R214). -/
theorem State.onTransfer_idle {s : State} (h : s.keep.run ≠ .running) (f : State → State) :
    s.onTransfer f = s.withStation { s.station with shiftedOut := some .idle } := by
  unfold State.onTransfer
  split
  case h_1 hr => exact absurd hr h
  all_goals rfl

/-- Every transfer's command goes through the station port. -/
theorem exec_viaStation_idle {s : State} (h : s.keep.run ≠ .running) {c : Instr} (hc : Instr.viaStation c = true) :
    exec c s = .next (s.withStation { s.station with shiftedOut := some .idle }) := by
  cases c
  case readStatus | readStats | setClock | setLane | setLanding | writeFare | readFare | stagePlan | cancelPlan | setCap
      | closeBerth | reopenBerth | forceVacate | laneClear | listBegin | listAdd | listCommit | logPeek | logDrop
      | storeSettings | restart | rttQuery | emptyFrame | stationBadFrame | stationUnknownCommand =>
    exact congrArg Host.Outcome.next (State.onTransfer_idle h _)
  all_goals cases hc

/-! ## The free port's grant -/

/-- An arbitration changes the grant alone. -/
theorem FlashPort.arbitrate_eq (p : FlashPort) (lookup : Bool) :
    p.arbitrate lookup = { p with due := (p.arbitrate lookup).due } := by
  unfold FlashPort.arbitrate
  split <;> rfl

theorem FlashPort.arbitrate_op (p : FlashPort) (lookup : Bool) : (p.arbitrate lookup).op = p.op := by
  rw [p.arbitrate_eq]

theorem FlashPort.arbitrate_job (p : FlashPort) (lookup : Bool) : (p.arbitrate lookup).job = p.job := by
  rw [p.arbitrate_eq]

/-- Without a lookup that wants a read, the free port's grant goes to the job (R177). -/
theorem FlashPort.arbitrate_due {p : FlashPort} (h : p.due = none) :
    (p.arbitrate false).due = if p.op = none ∧ p.job.isSome = true then some .job else none := by
  cases hop : p.op with
  | none => cases hj : p.job <;> simp [FlashPort.arbitrate, FlashPort.choose, hop, h, hj]
  | some o => simp [FlashPort.arbitrate, hop, h]

/-! ## The bank choice -/

theorem bankChoice_bankA {g : Nat} {b : Option Nat} (h : b = none ∨ ∃ k, b = some k ∧ k ≤ g) :
    bankChoice (some g) b = (.bankA, g, false) := by
  rcases h with rfl | ⟨k, rfl, hk⟩
  · rfl
  · exact if_neg (Nat.not_lt.mpr hk)

theorem bankChoice_bankB {k : Nat} {a : Option Nat} (h : a = none ∨ ∃ g, a = some g ∧ g < k) :
    bankChoice a (some k) = (.bankB, k, false) := by
  rcases h with rfl | ⟨g, rfl, hg⟩
  · rfl
  · exact if_pos hg

theorem DenyUnit.choose_of {d : DenyUnit} {a b : Option Nat} {k : Bank} {g : Nat} {empty : Bool}
    (h : bankChoice a b = (k, g, empty)) :
    (d.choose a b).noList = empty ∧ (d.choose a b).selector = k ∧ (d.choose a b).generation = g := by
  simp only [DenyUnit.choose, h, and_self]

/-! ## The end of a cold start -/

section
variable (s : State) (a b : Option Nat) (op : Option FlashOp)

/-- The port as the bank choice leaves it, before it decides its grant. -/
def State.coldPort : FlashPort :=
  { s.port with op := op, job := if (s.deny.choose a b).noList then none else some .rebuild }

theorem State.finishCold_port :
    (s.finishCold a b op).port = (s.coldPort a b op).arbitrate (s.deny.choose a b).wantsRead := rfl

theorem State.finishCold_op : (s.finishCold a b op).port.op = op := by
  rw [s.finishCold_port, FlashPort.arbitrate_op]
  rfl

theorem State.finishCold_job :
    (s.finishCold a b op).port.job = if (s.deny.choose a b).noList then none else some .rebuild := by
  rw [s.finishCold_port, FlashPort.arbitrate_job]
  rfl

/-- Without a grant and a lookup standing, the free port grants the rebuild scan, if there is a list (R168, R178). -/
theorem State.finishCold_due (due : s.port.due = none) (queue : s.deny.queue = []) :
    (s.finishCold a b op).port.due
      = if (s.finishCold a b op).port.op = none ∧ (s.deny.choose a b).noList = false then some .job else none := by
  have idle : (s.deny.choose a b).wantsRead = false := by
    show (match s.deny.queue with | q :: _ => !q.reading | [] => false) = false
    rw [queue]
  have job : (s.coldPort a b op).job.isSome = true ↔ (s.deny.choose a b).noList = false := by
    unfold State.coldPort
    cases (s.deny.choose a b).noList <;> simp
  rw [s.finishCold_op, s.finishCold_port, idle, FlashPort.arbitrate_due (p := s.coldPort a b op) due]
  simp only [job]
  rfl

theorem State.finishCold_lane (l : LaneId) :
    (s.finishCold a b op).lane l = (s.lane l).startConditioner s.now :=
  PerLane.get_map (fun x : Lane => x.startConditioner s.now) s.lanes l

/-- What the end of a cold start leaves (R166, R220 steps 4 to 6). -/
theorem State.finishCold_ended : ColdEnded a b s (s.finishCold a b op) := by
  refine ⟨rfl, rfl, rfl, s.finishCold_lane a b op, ?none, ?bankA, ?bankB, rfl, rfl, rfl, ?rebuild,
    s.finishCold_job a b op, s.finishCold_due a b op, rfl, rfl, rfl, rfl, rfl⟩
  case none =>
    rintro rfl rfl
    exact ⟨rfl, rfl, rfl⟩
  case bankA =>
    rintro g rfl h
    exact DenyUnit.choose_of (bankChoice_bankA h)
  case bankB =>
    rintro k rfl h
    exact DenyUnit.choose_of (bankChoice_bankB h)
  case rebuild => rfl

/-- The end without reads: three more unreadable pages (R220 step 2). -/
theorem State.finishUnread_ended : ColdEnded none none s (s.finishUnread op) :=
  s.countUnread.finishCold_ended none none op

theorem State.finishUnread_unreadablePages :
    (s.finishUnread op).station.stats.unreadablePages = bump (bump (bump s.station.stats.unreadablePages)) := rfl

end

/-! ## The course of the reads -/

section
variable {s : State}

/-- A page read ended and counted. -/
theorem State.endRead_eq {reads : FlashReads} {res : PageResult} {n : Nat} (h : judgeReads reads = (res, n)) :
    s.endRead reads = s.readCounted res n := by
  unfold State.endRead
  rw [h]
  rfl

/-- The end of a start-up read in a cold start. -/
theorem exec_pageReadEnd_cold {stage : ColdStage} {page : Nat} {reads : FlashReads} {res : PageResult} {n : Nat}
    (hc : s.keep.run = .coldStart stage) (ho : s.port.op = some (.pageRead .startUp page))
    (hres : judgeReads reads = (res, n)) :
    exec (.pageReadEnd reads) s = .next ((s.readCounted res n).coldRead res stage) := by
  show execPageReadEnd reads s = _
  simp only [execPageReadEnd, hc, ho, hres, State.endRead_eq hres]

theorem exec_flashResetEnd_cold {waited : Nat} (hc : s.keep.run = .coldStart (.flashReset waited))
    (ho : s.port.op = some .reset) :
    exec .flashResetEnd s = .next (if 2000 < waited then s.finishUnread none else s.beginImage) := by
  show execFlashResetEnd s = _
  simp only [execFlashResetEnd, hc, ho]
  rfl

theorem exec_flashReadyTimeout_cold {waited : Nat} (hc : s.keep.run = .coldStart (.flashReset waited)) :
    exec .flashReadyTimeout s = .next (if 2000 ≤ waited then s.finishUnread s.port.op else s) := by
  show execFlashReadyTimeout s = _
  simp only [execFlashReadyTimeout, hc]
  rfl

/-- The next content page while one is left (R183). -/
theorem State.afterContent_next {pages : List Page} (h : pages.length < 33) :
    s.afterContent pages = s.coldStage (.imageContent pages) (startUpRead (10241 + pages.length)) := if_pos h

theorem State.afterContent_last {pages : List Page} (h : ¬ pages.length < 33) :
    s.afterContent pages = s.afterImage (imageSettings pages) := if_neg h

/-- A lane has the role and the settings of a valid image (R185). -/
theorem State.afterImage_lane (s : State) (img : SettingsCopy) (l : LaneId) :
    ((s.afterImage (some img)).lane l).role = (img.lanes.get l).1
      ∧ ((s.afterImage (some img)).lane l).settings = (img.lanes.get l).2 := by
  cases l <;> exact ⟨rfl, rfl⟩

end

/-- Settles O60, by the stages of the cold start. -/
theorem coldStartReadsTheFlash : Obligations.ColdStartReadsTheFlash := by
  unfold Obligations.ColdStartReadsTheFlash
  rintro s stage hc stageAt rfl
  have notRunning : s.keep.run ≠ .running := fun hr => nomatch hr.symm.trans hc
  refine ⟨fun c => exec_viaStation_idle notRunning, ?wait, fun page reads res n u ho hres hu => ?read⟩
  case wait =>
    rintro waited rfl
    refine ⟨fun hw ho => ?_, fun hw ho => ?_, fun hw => ?_, fun hw => ?_⟩
    · rw [exec_flashResetEnd_cold hc ho, if_neg (Nat.not_lt.mpr hw)]
      rfl
    · rw [exec_flashResetEnd_cold hc ho, if_pos hw]
      exact ⟨_, rfl, s.finishUnread_ended none, State.finishCold_op _ none none none,
        s.finishUnread_unreadablePages none⟩
    · rw [exec_flashReadyTimeout_cold hc, if_pos hw]
      exact ⟨_, rfl, s.finishUnread_ended _, State.finishCold_op _ none none _, s.finishUnread_unreadablePages _⟩
    · rw [exec_flashReadyTimeout_cold hc, if_neg (Nat.not_le.mpr hw)]
  case read =>
    have ended : exec (.pageReadEnd reads) s = .next (u.coldRead res stage) := by
      rw [hu]
      exact exec_pageReadEnd_cold hc ho hres
    rw [ended]
    refine ⟨?header, ?content, ?bankA, ?bankB⟩
    case header =>
      rintro rfl
      refine ⟨fun hv => ?_, fun hv => ?_⟩
      · exact congrArg Host.Outcome.next ((if_pos hv).trans (State.afterContent_next (by decide)))
      · exact congrArg Host.Outcome.next (if_neg (Bool.eq_false_iff.mp hv))
    case content =>
      rintro pages rfl
      refine ⟨?_, ?_⟩
      · rintro (rfl | rfl) <;> rfl
      · rintro p rfl
        have length : (pages ++ [p]).length = pages.length + 1 := List.length_append
        refine ⟨fun hl => ?_, fun hl => ?_⟩
        · have next := State.afterContent_next (s := u) (pages := pages ++ [p]) (by omega)
          rw [length] at next
          exact congrArg Host.Outcome.next next
        · have last := State.afterContent_last (s := u) (pages := pages ++ [p]) (by omega)
          refine ⟨fun himg => ?_, fun img himg => ?_⟩
          · rw [himg] at last
            exact congrArg Host.Outcome.next last
          · rw [himg] at last
            exact ⟨_, congrArg Host.Outcome.next last, rfl, rfl, rfl, rfl, rfl, u.afterImage_lane img⟩
    case bankA =>
      rintro rfl
      rfl
    case bankB =>
      rintro a rfl
      exact ⟨_, rfl, u.finishCold_ended _ _ _, u.finishCold_op _ _ _⟩

end Sys2Proof.Machine
end

section
/-!
PROOF. The ends of programs, erases and the reset operation, and the time limits (R158, R162, R164, R165, R182, R184).
-/
namespace Sys2Proof.Machine

section
variable {s : State}

/-! ## What the ends do -/

/-- A port in use decides no grant (R178). -/
theorem State.arbitrate_busy {o : FlashOp} (h : s.port.op = some o) : s.arbitrate = s := by
  unfold State.arbitrate FlashPort.arbitrate
  rw [h]
  rfl

theorem State.failJob_op (op : Option FlashOp) : (s.failJob op).port.op = op := by
  unfold State.failJob
  dsimp only
  split <;> rfl

/-- The reset operation after a time limit keeps the port in use. -/
theorem State.failJob_reset_arbitrate : (s.failJob (some .reset)).arbitrate = s.failJob (some .reset) :=
  State.arbitrate_busy (State.failJob_op _)

theorem FlashPort.eraseOverdue_of {p : FlashPort} {h : HeldErase} (hh : p.held = some h) (now : Nat) :
    p.eraseOverdue now = decide (h.issued + 2000 < now) := by
  unfold FlashPort.eraseOverdue
  rw [hh]
  rfl

theorem FlashPort.eraseLimitReached_of {p : FlashPort} {h : HeldErase} (hh : p.held = some h) (now : Nat) :
    p.eraseLimitReached now = decide (h.issued + 2000 ≤ now) := by
  unfold FlashPort.eraseLimitReached
  rw [hh]
  rfl

theorem State.actLimit_reached {h : HeldErase} (hh : s.port.held = some h) (hl : h.issued + 2000 ≤ s.now) :
    s.actLimit = s.failJob (some .reset) := by
  unfold State.actLimit
  rw [FlashPort.eraseLimitReached_of hh, if_pos (decide_eq_true hl)]

theorem State.actLimit_before (h : ∀ e, s.port.held = some e → s.now < e.issued + 2000) : s.actLimit = s := by
  unfold State.actLimit
  cases hh : s.port.held with
  | none => simp [FlashPort.eraseLimitReached, hh]
  | some e => rw [FlashPort.eraseLimitReached_of hh, if_neg (by simpa using h e hh)]

/-- A program has no erase held beside it, so its end leaves the port with nothing. -/
theorem FlashPort.free_endJob {p : FlashPort} (held : p.held = none) (count : p.suspendCount = 0)
    (since : p.runSince = none) : p.free.endJob = p.jobEnded := by
  simp only [FlashPort.free, FlashPort.endJob, FlashPort.jobEnded, held, count, since]

/-! ## Good ends, by the job -/

theorem State.eraseGood_nextSector {i : Nat} (hj : s.port.job = some (.listErase i)) (hi : i < 319) :
    s.eraseGood = (s.withPort s.port.endErase).endOp.nextOp (.listErase (i + 1)) := by
  simp only [State.eraseGood, hj]
  exact if_pos (Nat.succ_lt_succ hi)

theorem State.eraseGood_opened {i : Nat} (hj : s.port.job = some (.listErase i)) (hi : 319 ≤ i) :
    s.eraseGood = ((s.withPort s.port.jobEnded).withDeny { s.deny with standby := .opened }).latchListDone := by
  simp only [State.eraseGood, hj]
  exact if_neg (Nat.not_lt.mpr (Nat.succ_le_succ hi))

theorem State.eraseGood_store {copy : SettingsCopy} {i : Nat} (hj : s.port.job = some (.settingsStore copy i)) :
    s.eraseGood = (s.withPort s.port.endErase).endOp.nextOp (.settingsStore copy (i + 1)) := by
  simp only [State.eraseGood, hj]

section
variable (held : s.port.held = none) (count : s.port.suspendCount = 0) (since : s.port.runSince = none)
include held count since

theorem State.programGood_flush {target : Nat} {content : DenyPage} (hj : s.port.job = some (.flush target content)) :
    s.programGood = s.withPort s.port.jobEnded := by
  simp only [State.programGood, hj, ← FlashPort.free_endJob held count since]
  rfl

theorem State.programGood_switch (hj : s.port.job = some (.commit none)) :
    s.programGood = (s.withPort s.port.jobEnded).commitSwitch := by
  simp only [State.programGood, hj, ← FlashPort.free_endJob held count since]
  rfl

theorem State.programGood_stored {copy : SettingsCopy} {i : Nat} (hj : s.port.job = some (.settingsStore copy i))
    (hi : 36 ≤ i) :
    s.programGood = (s.withPort { s.port.jobEnded with store := .stored }).latchSettingsDone := by
  simp only [State.programGood, hj, ← FlashPort.free_endJob held count since]
  exact if_neg (Nat.not_lt.mpr (Nat.succ_le_succ hi))

end

theorem State.programGood_closed {closing : Nat × DenyPage} (hj : s.port.job = some (.commit (some closing))) :
    s.programGood = s.endOp.nextOp (.commit none) := by
  simp only [State.programGood, hj]

theorem State.programGood_store {copy : SettingsCopy} {i : Nat} (hj : s.port.job = some (.settingsStore copy i))
    (hi : i < 36) : s.programGood = s.endOp.nextOp (.settingsStore copy (i + 1)) := by
  simp only [State.programGood, hj]
  exact if_pos (Nat.succ_lt_succ hi)

/-! ## How the ends reach the port -/

section
variable (hr : s.keep.run = .running)
include hr

theorem exec_sectorEraseEnd {sector : Nat} {h : HeldErase} (ho : s.port.op = some (.sectorErase sector))
    (hh : s.port.held = some h) (good : Bool) : exec (.sectorEraseEnd good) s
      = .next (if h.issued + 2000 < s.now then s.failJob (some .reset) else s.eraseEnded good).arbitrate := by
  show execSectorEraseEnd good s = _
  simp only [execSectorEraseEnd, State.whenRunning_of hr, ho, FlashPort.eraseOverdue_of hh, decide_eq_true_eq]

theorem exec_pageProgramEnd {page issued : Nat} {bytes : Page}
    (ho : s.port.op = some (.pageProgram page bytes issued)) (good : Bool) : exec (.pageProgramEnd good) s
      = .next (if issued + 10 < s.now then s.failJob (some .reset) else s.programEnded good).arbitrate := by
  show execPageProgramEnd good s = _
  simp only [execPageProgramEnd, State.whenRunning_of hr, ho, programOverdue, decide_eq_true_eq]
  rfl

theorem exec_operationTimeLimit_program {page issued : Nat} {bytes : Page}
    (ho : s.port.op = some (.pageProgram page bytes issued)) :
    exec .operationTimeLimit s = .next (if issued + 10 ≤ s.now then s.failJob (some .reset) else s) := by
  show execOperationTimeLimit s = _
  simp only [execOperationTimeLimit, State.whenRunning_of hr, ho, programLimitReached, decide_eq_true_eq]
  rfl

/-- The limit of an erase is looked at while it runs, and while it is held with the port free. -/
theorem exec_operationTimeLimit_erase (ho : s.port.op = none ∨ ∃ sector, s.port.op = some (.sectorErase sector)) :
    exec .operationTimeLimit s = .next s.actLimit := by
  show execOperationTimeLimit s = _
  rcases ho with ho | ⟨sector, ho⟩ <;> simp only [execOperationTimeLimit, State.whenRunning_of hr, ho]

theorem exec_flashResetEnd_running (ho : s.port.op = some .reset) :
    exec .flashResetEnd s = .next s.endOp.arbitrate := by
  show execFlashResetEnd s = _
  simp only [execFlashResetEnd, hr, ho]

end

theorem exec_flashResetEnd_warm {stage : WarmStage} (hr : s.keep.run = .warmRestart stage)
    (ho : s.port.op = some .reset) : exec .flashResetEnd s = .next s.endOp := by
  show execFlashResetEnd s = _
  simp only [execFlashResetEnd, hr, ho]

end

/-- Settles O56, by the operation that ends and the job it belongs to. -/
theorem operationsEndWithTheirOwnersResponse : Obligations.OperationsEndWithTheirOwnersResponse := by
  unfold Obligations.OperationsEndWithTheirOwnersResponse
  refine ⟨fun s hr failed hfailed => ?_, fun s stage hr ho => exec_flashResetEnd_warm hr ho⟩
  have failed_eq (op : Option FlashOp) : failed op = s.failJob op := by
    rw [hfailed]
    unfold State.failJob
    dsimp only
    cases s.port.job with
    | none => rfl
    | some j => cases j <;> rfl
  simp only [failed_eq]
  refine ⟨?erase, ?program, ?held, exec_flashResetEnd_running hr⟩
  case erase =>
    rintro sector h erased ho hh rfl
    refine ⟨fun hn => ?_, fun hn good => ?_⟩
    · have inTime (good : Bool) : exec (.sectorEraseEnd good) s = .next (s.eraseEnded good).arbitrate := by
        rw [exec_sectorEraseEnd hr ho hh, if_neg (Nat.not_lt.mpr hn)]
      have ended : exec (.sectorEraseEnd true) s = .next s.eraseGood.arbitrate := inTime true
      refine ⟨inTime false, fun i hj => ⟨fun hi => ?_, fun hi => ?_⟩, fun copy i hj => ?_⟩
      · rw [ended, State.eraseGood_nextSector hj hi]; rfl
      · rw [ended, State.eraseGood_opened hj hi]
      · rw [ended, State.eraseGood_store hj]; rfl
    · rw [exec_sectorEraseEnd hr ho hh, if_pos hn, State.failJob_reset_arbitrate]
  case program =>
    intro page bytes issued ho held count since
    refine ⟨fun hn => ?_, fun hn good => ?_, fun hn => ?_, fun hn => ?_⟩
    · have inTime (good : Bool) : exec (.pageProgramEnd good) s = .next (s.programEnded good).arbitrate := by
        rw [exec_pageProgramEnd hr ho, if_neg (Nat.not_lt.mpr hn)]
      have ended : exec (.pageProgramEnd true) s = .next s.programGood.arbitrate := inTime true
      refine ⟨inTime false, fun target content hj => ?_, fun closing hj => ?_, fun hj => ?_,
        fun copy i hj => ⟨fun hi => ?_, fun hi => ?_⟩⟩
      · rw [ended, State.programGood_flush held count since hj]
      · rw [ended, State.programGood_closed hj]; rfl
      · rw [ended, State.programGood_switch held count since hj]; rfl
      · rw [ended, State.programGood_store hj hi]; rfl
      · rw [ended, State.programGood_stored held count since hj hi]
    · rw [exec_pageProgramEnd hr ho, if_pos hn, State.failJob_reset_arbitrate]
    · rw [exec_operationTimeLimit_program hr ho, if_pos hn]
    · rw [exec_operationTimeLimit_program hr ho, if_neg (Nat.not_le.mpr hn)]
  case held =>
    intro h hh ho
    rw [exec_operationTimeLimit_erase hr (ho.imp_right fun op => ⟨h.sector, op⟩)]
    refine ⟨fun hn => by rw [State.actLimit_reached hh hn], fun hn => ?_⟩
    rw [State.actLimit_before fun e he => by cases hh.symm.trans he; exact hn]

end Sys2Proof.Machine
end

section
/-!
PROOF. The end of a page read reaches its requester (R116, R153, R168, R169, R173, R174): what a lookup makes of a page, and
the port as a decision leaves it.
-/
namespace Sys2Proof.Machine

/-! ## What a lookup makes of a page -/

section
variable {q : Lookup} {p : Page} {d : DenyPage}

theorem Lookup.judge_primaryErased (h : q.position = 1) : q.judge .erased = .ends .notListed := by
  simp [Lookup.judge, h]

theorem Lookup.judge_chainErased (h : q.position ≠ 1) : q.judge .erased = .ends .unreadable := by
  simp [Lookup.judge, h]

theorem Lookup.judge_undecoded (h : decodeDenyPage p = none) : q.judge (.good p) = .ends .unreadable := by
  simp [Lookup.judge, h]

/-- The first entry of the token decides. -/
theorem Lookup.judge_listed (h : decodeDenyPage p = some d) {older younger : List DenyEntry} {x : DenyEntry}
    (hd : d.entries = older ++ x :: younger) (hx : x.tokenId = q.tokenId) (ho : ∀ y ∈ older, y.tokenId ≠ q.tokenId) :
    q.judge (.good p) = .ends (.listed x.action x.reason) := by
  have found : d.entries.find? (fun e => decide (e.tokenId = q.tokenId)) = some x :=
    List.find?_eq_some_iff_append.mpr ⟨decide_eq_true hx, older, younger, hd, fun y hy => by simpa using ho y hy⟩
  simp [Lookup.judge, h, found]

section
variable (h : decodeDenyPage p = some d) (hn : ∀ y ∈ d.entries, y.tokenId ≠ q.tokenId)
include h hn

/-- A page without the token is judged by its link. -/
theorem Lookup.judge_unlisted : q.judge (.good p)
    = match d.next with
      | none => .ends .notListed
      | some k =>
        if q.position = 3 then .ends .unreadable
        else .continues { q with nextPage := 4096 + k, position := q.position + 1, reading := false } := by
  have absent : d.entries.find? (fun e => decide (e.tokenId = q.tokenId)) = none :=
    List.find?_eq_none.mpr fun y hy => by simpa using hn y hy
  simp only [Lookup.judge, h, absent] <;> rfl

theorem Lookup.judge_lastPage (hk : d.next = none) : q.judge (.good p) = .ends .notListed := by
  rw [Lookup.judge_unlisted h hn, hk]

theorem Lookup.judge_chainTooLong {k : Nat} (hk : d.next = some k) (h3 : q.position = 3) :
    q.judge (.good p) = .ends .unreadable := by
  rw [Lookup.judge_unlisted h hn, hk]
  exact if_pos h3

theorem Lookup.judge_nextPage {k : Nat} (hk : d.next = some k) (h3 : q.position ≠ 3) : q.judge (.good p)
    = .continues { q with nextPage := 4096 + k, position := q.position + 1, reading := false } := by
  rw [Lookup.judge_unlisted h hn, hk]
  exact if_neg h3

end

end

/-! ## Decisions leave the port -/

section
variable (s : State) (l : LaneId)

theorem State.settle_port : (s.settle l).port = s.port := by
  unfold State.settle
  split <;> rfl

theorem State.decideRefuse_port (p : Progress) (r : Reason) (d : Option Nat) :
    (s.decideRefuse l p r d).port = s.port := by
  unfold State.decideRefuse
  rw [State.settle_port]
  split
  · exact (State.askRefusal_recorded _ _ _).port
  · rfl

theorem State.decideOffer_port (o : Offer) : (s.decideOffer l o).port = s.port := State.settle_port _ l

theorem State.decidePlace_port (e : Evaluation) (o : Offer) : (s.decidePlace l e o).port = s.port := by
  unfold State.decidePlace
  split
  · exact s.decideOffer_port l o
  · rename_i b _
    have claimed := (s.claimPlace_list b l).2
    split
    · rename_i hc
      rw [hc] at claimed
      exact (State.decideOffer_port _ l o).trans claimed
    · rename_i hc
      rw [hc] at claimed
      exact (State.decideRefuse_port _ l _ _ none).trans claimed

theorem State.decideClaims_port (e : Evaluation) (flags : DenyFlags) : (s.decideClaims l e flags).port = s.port := by
  unfold State.decideClaims
  split
  · exact s.decideRefuse_port l _ _ none
  · split
    · exact s.decideRefuse_port l _ _ none
    · split
      · exact State.decideRefuse_port _ l _ _ none
      · exact State.decidePlace_port _ l e _

theorem State.decideLookup_port (e : Evaluation) (o : LookupOutcome) : (s.decideLookup l e o).port = s.port := by
  unfold State.decideLookup State.applyPolicy
  split
  · exact s.decideClaims_port l e _
  · exact s.decideClaims_port l e _
  · exact s.decideRefuse_port l _ _ _
  · split
    · exact s.decideClaims_port l e _
    · exact s.decideRefuse_port l _ _ _

end

/-! ## The end of a lookup's read -/

section
variable {s : State}

/-- A lookup that ends decides the evaluation that waits for it (R116). -/
theorem State.lookupRead_ends {q : Lookup} {rest : List Lookup} {e : Evaluation} {deadline : Nat} {res : PageResult}
    {o : LookupOutcome} (hq : s.deny.queue = q :: rest) (hctx : (s.lane q.lane).ctx = .waiting e deadline)
    (hj : q.judge res = .ends o) : s.lookupRead res = (s.withQueue rest).decideLookup q.lane e o := by
  have waiting : ((s.withQueue rest).lane q.lane).ctx = .waiting e deadline := hctx
  simp only [State.lookupRead, hq, hj, State.handOutcome, waiting]

theorem State.lookupRead_continues {q q' : Lookup} {rest : List Lookup} {res : PageResult}
    (hq : s.deny.queue = q :: rest) (hj : q.judge res = .continues q') :
    s.lookupRead res = s.withQueue (q' :: rest) := by
  simp only [State.lookupRead, hq, hj]

/-- The end of a page read while the part runs. -/
theorem exec_pageReadEnd_running {who : Requester} {page : Nat} {reads : FlashReads} {res : PageResult} {n : Nat}
    (hr : s.keep.run = .running) (ho : s.port.op = some (.pageRead who page)) (hres : judgeReads reads = (res, n)) :
    exec (.pageReadEnd reads) s = .next ((s.readCounted res n).readEnded res who).arbitrate := by
  show execPageReadEnd reads s = _
  simp only [execPageReadEnd, hr, ho, hres, State.endRead_eq hres]

end

/-- From `s` to `t` a page read ended: the part runs, the port is free, the held erase and the time stand. -/
structure ReadFreed (s t : State) : Prop where
  run : t.keep.run = .running
  op : t.port.op = none
  held : t.port.held = s.port.held
  now : t.now = s.now

theorem State.readCounted_freed {s : State} (hr : s.keep.run = .running) (res : PageResult) (n : Nat) :
    ReadFreed s (s.readCounted res n) := ⟨hr, rfl, rfl, rfl⟩

theorem ReadFreed.withDeny {s t : State} (h : ReadFreed s t) (d : DenyUnit) : ReadFreed s (t.withDeny d) :=
  ⟨h.run, h.op, h.held, h.now⟩

theorem ReadFreed.decideLookup {s t : State} (h : ReadFreed s t) (l : LaneId) (e : Evaluation) (o : LookupOutcome) :
    ReadFreed s (t.decideLookup l e o) := by
  have quiet := t.decideLookup_quiet l e o
  have port := t.decideLookup_port l e o
  exact ⟨by rw [quiet.keep, h.run], by rw [port, h.op], by rw [port, h.held],
    (congrArg Clock.timeBase quiet.clock).trans h.now⟩

/-- With the held erase's time limit acted on, the free port decides its grant; the reset operation of a limit that was
reached leaves it none (R182). -/
theorem ReadFreed.ends {s t : State} (h : ReadFreed s t) {ends : State → Host.Outcome State Fault Refusal}
    (before : (∀ h, s.port.held = some h → s.now < h.issued + 2000) → ∀ t, ends t = .next t.arbitrate)
    (reached : (∃ h, s.port.held = some h ∧ h.issued + 2000 ≤ s.now) → ∀ t, ends t = exec .operationTimeLimit t) :
    .next t.actLimit.arbitrate = ends t := by
  by_cases limit : ∃ h, s.port.held = some h ∧ h.issued + 2000 ≤ s.now
  · obtain ⟨e, he, hl⟩ := limit
    rw [reached ⟨e, he, hl⟩, exec_operationTimeLimit_erase h.run (.inl h.op),
      State.actLimit_reached (h.held.trans he) (h.now.symm ▸ hl), State.failJob_reset_arbitrate]
  · have none_reached : ∀ e, s.port.held = some e → s.now < e.issued + 2000 :=
      fun e he => Nat.not_le.mp fun hl => limit ⟨e, he, hl⟩
    rw [before none_reached, State.actLimit_before fun e he => h.now.symm ▸ none_reached e (h.held.symm.trans he)]

/-- Settles O55, by the requester and by what the head lookup makes of the page. -/
theorem pageReadReachesItsRequester : Obligations.PageReadReachesItsRequester := by
  unfold Obligations.PageReadReachesItsRequester
  intro s reads page res n hr hres ends before reached
  have freed := State.readCounted_freed hr res n
  refine ⟨fun ho => ?withdrawn, ?lookup, ?rebuild⟩
  case withdrawn =>
    rw [exec_pageReadEnd_running hr ho hres]
    exact freed.ends before reached
  case lookup =>
    intro q rest e deadline ho hq hctx t policy ht hpolicy
    have decides (o : LookupOutcome) (hj : q.judge res = .ends o) :
        exec (.pageReadEnd reads) s = ends (t.decideLookup q.lane e o) := by
      have read : (s.readCounted res n).lookupRead res = t.decideLookup q.lane e o := by
        rw [ht]
        exact State.lookupRead_ends (s := s.readCounted res n) hq hctx hj
      have decided : ReadFreed s (t.decideLookup q.lane e o) := by
        rw [ht]
        exact (freed.withDeny _).decideLookup _ _ _
      rw [exec_pageReadEnd_running hr ho hres, ← decided.ends before reached, ← read]
      rfl
    have policy_eq : t.decideLookup q.lane e .unreadable = policy := by
      rw [hpolicy, ht]
      rfl
    have undecided (hj : q.judge res = .ends .unreadable) : exec (.pageReadEnd reads) s = ends policy :=
      policy_eq ▸ decides .unreadable hj
    refine ⟨?unreadable, ?primary, ?chain, ?good⟩
    case unreadable =>
      rintro rfl
      exact undecided rfl
    case primary =>
      rintro rfl h1
      exact decides .notListed (Lookup.judge_primaryErased h1)
    case chain =>
      rintro rfl h1
      exact undecided (Lookup.judge_chainErased h1)
    case good =>
      rintro p rfl
      refine ⟨fun hd => undecided (Lookup.judge_undecoded hd), fun d hd => ⟨?listed, fun hn => ?unlisted⟩⟩
      case listed =>
        intro older x younger hds hx ho
        have listed := decides _ (Lookup.judge_listed hd hds hx ho)
        refine ⟨fun ha => ?_, fun ha => ?_⟩ <;>
        · rw [ha] at listed
          exact listed
      case unlisted =>
        refine ⟨fun hk => decides .notListed (Lookup.judge_lastPage hd hn hk),
          fun k hk h3 => undecided (Lookup.judge_chainTooLong hd hn hk h3), fun k hk h3 => ?_⟩
        have read := State.lookupRead_continues (s := s.readCounted (.good p) n) hq
          (Lookup.judge_nextPage hd hn hk h3)
        rw [exec_pageReadEnd_running hr ho hres, ← (freed.withDeny _).ends before reached]
        show Host.Outcome.next ((s.readCounted (.good p) n).lookupRead (.good p)).actLimit.arbitrate = _
        rw [read]
        rfl
  case rebuild =>
    rintro r fresh ho hrb rfl
    have scanning : (s.readCounted res n).deny.rebuild = some r := hrb
    rw [exec_pageReadEnd_running hr ho hres]
    refine ⟨fun hp => ?_, fun hp => ?_⟩
    · have next : (r.judge res).position < 4096 := Nat.succ_lt_succ hp
      simp only [State.readEnded, State.rebuildRead, scanning, if_pos next]
      rfl
    · have last : ¬ (r.judge res).position < 4096 := Nat.not_lt.mpr (Nat.succ_le_succ hp)
      simp only [State.readEnded, State.rebuildRead, scanning, if_neg last]
      rfl

end Sys2Proof.Machine
end

section
/-!
PROOF. LIST_BEGIN, LIST_ADD and LIST_COMMIT (R157, R160, R161, R163): R160's judgement of an entry case by case, what the
writer makes of one entry, and the count of a whole LIST_ADD.
-/
namespace Sys2Proof.Machine

/-! ## LIST_BEGIN and LIST_COMMIT -/

/-- Whether a lookup holds the standby bank (R155). -/
theorem DenyUnit.standbyHeld_iff (d : DenyUnit) :
    d.standbyHeld = true ↔ ∃ q ∈ d.queue, q.captured = some d.selector.other :=
  List.any_eq_true.trans (exists_congr fun _ => and_congr_right fun _ => decide_eq_true_iff)

section
variable {s : State}

theorem State.takeListBegin_wrongState
    (h : s.deny.standby = .erasing ∨ s.deny.standby = .opened ∨ s.deny.standby = .committing) :
    s.takeListBegin = (s, .no .wrongState) := by
  rcases h with h | h | h <;> simp only [State.takeListBegin, h]

/-- Out of an update, a background job or a held standby bank refuses a new one (R157). -/
theorem State.takeListBegin_of (h : s.deny.standby = .stale ∨ s.deny.standby = .fault) :
    s.takeListBegin = if s.deny.standbyHeld || s.port.job.isSome then (s, .no .busy)
      else ((s.withDeny s.deny.begin).createJob (.listErase 0), .yes) := by
  rcases h with h | h <;> simp only [State.takeListBegin, h]

theorem State.takeListBegin_busy (h : s.deny.standby = .stale ∨ s.deny.standby = .fault)
    (hb : s.port.job ≠ none ∨ ∃ q ∈ s.deny.queue, q.captured = some s.deny.selector.other) :
    s.takeListBegin = (s, .no .busy) := by
  rw [State.takeListBegin_of h, if_pos]
  rw [Bool.or_eq_true, DenyUnit.standbyHeld_iff, Option.isSome_iff_ne_none]
  exact hb.symm

theorem State.takeListBegin_begun (h : s.deny.standby = .stale ∨ s.deny.standby = .fault) (hj : s.port.job = none)
    (hq : ∀ q ∈ s.deny.queue, q.captured ≠ some s.deny.selector.other) :
    s.takeListBegin = ((s.withDeny s.deny.begin).createJob (.listErase 0), .yes) := by
  rw [State.takeListBegin_of h, if_neg]
  rw [Bool.or_eq_true, DenyUnit.standbyHeld_iff, hj]
  rintro (⟨q, mem, captured⟩ | some)
  · exact hq q mem captured
  · cases some

theorem State.takeListCommit_wrongState (h : s.deny.standby ≠ .opened) : s.takeListCommit = (s, .no .wrongState) :=
  if_pos h

section
variable (h : s.deny.standby = .opened)
include h

theorem State.takeListCommit_limit (hg : s.deny.generation = 4294967295) :
    s.takeListCommit = (s, .no .generationLimit) :=
  (if_neg (not_not_intro h)).trans (if_pos hg)

theorem State.takeListCommit_of (hg : s.deny.generation ≠ 4294967295) :
    s.takeListCommit = if s.port.job.isSome then (s, .no .busy)
      else ((s.withDeny (s.deny.emptyBuffer.setStandby .committing)).createJob (.commit s.deny.closingFlush), .yes) :=
  (if_neg (not_not_intro h)).trans (if_neg hg)

end

/-! ## R160's judgement of an entry -/

section
variable {d : DenyUnit} {e : DenyEntry}

theorem DenyUnit.judgeAdd_empty (h : d.buffer = none) : d.judgeAdd e = .joins := by
  simp only [DenyUnit.judgeAdd, h]

variable {buf : Buffer} (h : d.buffer = some buf)
include h

theorem DenyUnit.judgeAdd_order (hb : bucketOf e.tokenId < buf.bucket) : d.judgeAdd e = .refused .order := by
  simp only [DenyUnit.judgeAdd, h, if_pos hb]

theorem DenyUnit.judgeAdd_closing (hb : buf.bucket < bucketOf e.tokenId) : d.judgeAdd e = .closingFlush := by
  simp only [DenyUnit.judgeAdd, h, if_neg hb.not_gt, if_neg hb.ne']

section
variable (hb : bucketOf e.tokenId = buf.bucket)
include hb

theorem DenyUnit.judgeAdd_duplicate (hx : ∃ x ∈ buf.entries, x.tokenId = e.tokenId) :
    d.judgeAdd e = .refused .duplicate := by
  have found : (buf.entries.any fun x => decide (x.tokenId = e.tokenId)) = true := by simpa using hx
  simp only [DenyUnit.judgeAdd, h, if_neg hb.not_lt, if_pos hb, if_pos found]

/-- An entry of the buffer's bucket that the buffer does not hold: joined, or the chain's next page. -/
theorem DenyUnit.judgeAdd_new (hx : ∀ x ∈ buf.entries, x.tokenId ≠ e.tokenId) :
    d.judgeAdd e = if buf.entries.length < 31 then .joins else if buf.position = 3 then .refused .chainFull
      else if d.overflowUsed = 1023 then .refused .overflowFull else .linkedFlush := by
  have absent : ¬ (buf.entries.any fun x => decide (x.tokenId = e.tokenId)) = true := by simpa using hx
  simp only [DenyUnit.judgeAdd, h, if_neg hb.not_lt, if_pos hb, if_neg absent]

end

end

/-! ## One entry at the writer -/

theorem DenyUnit.addJoining_empty {d : DenyUnit} (h : d.buffer = none) (e : DenyEntry) :
    d.addJoining e = d.takeInto (freshBuffer (bucketOf e.tokenId)) e := by
  rw [DenyUnit.addJoining, h, Option.getD_none]

theorem DenyUnit.addJoining_buffer {d : DenyUnit} {buf : Buffer} (h : d.buffer = some buf) (e : DenyEntry) :
    d.addJoining e = d.takeInto buf e := by
  rw [DenyUnit.addJoining, h, Option.getD_some]

section
variable {d : DenyUnit} {e : DenyEntry} (job : Bool)

theorem addEntries_one_refused {r : StationReason} (h : d.judgeAdd e = .refused r) :
    addEntries job d none 0 [e] = { unit := d, flush := none, count := 0, ending := .refused r } := by
  simp only [addEntries, h]

theorem addEntries_one_joins (h : d.judgeAdd e = .joins) :
    addEntries job d none 0 [e] = { unit := d.addJoining e, flush := none, count := 1, ending := .taken } := by
  simp only [addEntries, h]

variable {buf : Buffer} (hb : d.buffer = some buf)
include hb

theorem addEntries_one_closing (h : d.judgeAdd e = .closingFlush) :
    addEntries false d none 0 [e]
      = { unit := (d.addClosing buf e).2, flush := some (d.addClosing buf e).1, count := 1, ending := .taken } := by
  simp [addEntries, h, hb]

theorem addEntries_one_linked (h : d.judgeAdd e = .linkedFlush) :
    addEntries false d none 0 [e]
      = { unit := (d.addLinked buf e).2, flush := some (d.addLinked buf e).1, count := 1, ending := .taken } := by
  simp [addEntries, h, hb]

/-- A flush needs the port's job: with one standing, the whole command is refused BUSY (R161). -/
theorem addEntries_one_busy (h : d.judgeAdd e = .closingFlush ∨ d.judgeAdd e = .linkedFlush) :
    addEntries true d none 0 [e] = { unit := d, flush := none, count := 0, ending := .wholeBusy } := by
  rcases h with h | h <;> simp [addEntries, h, hb]

end

/-! ## A whole LIST_ADD at the writer -/

/-- The writer stops at an entry with the unit as it stands, or takes it and goes on. -/
theorem addEntries_cons_cases (job : Bool) (d : DenyUnit) (flush : Option Job) (n : Nat) (e : DenyEntry)
    (rest : List DenyEntry) :
    (∃ ending, ending ≠ .taken
      ∧ addEntries job d flush n (e :: rest) = { unit := d, flush := flush, count := n, ending := ending })
    ∨ ∃ d' flush', d'.entriesTaken = d.entriesTaken + 1
      ∧ addEntries job d flush n (e :: rest) = addEntries job d' flush' (n + 1) rest := by
  rw [addEntries]
  split
  case h_1 => exact .inl ⟨.refused _, nofun, rfl⟩
  case h_2 => exact .inr ⟨d.addJoining e, _, rfl, rfl⟩
  case h_3 buf _ _ =>
    split
    · exact .inl ⟨.wholeBusy, nofun, rfl⟩
    · split
      · exact .inl ⟨.refused .busy, nofun, rfl⟩
      · exact .inr ⟨(d.addClosing buf e).2, _, rfl, rfl⟩
  case h_4 buf _ _ =>
    split
    · exact .inl ⟨.wholeBusy, nofun, rfl⟩
    · split
      · exact .inl ⟨.refused .busy, nofun, rfl⟩
      · exact .inr ⟨(d.addLinked buf e).2, _, rfl, rfl⟩
  case h_5 | h_6 => exact .inr ⟨d.addJoining e, _, rfl, rfl⟩

/-- The entries taken are counted, and all of them are taken exactly when none is refused. -/
theorem addEntries_counts (job : Bool) (es : List DenyEntry) (d : DenyUnit) (flush : Option Job) (n : Nat) :
    ∃ k ≤ es.length, (addEntries job d flush n es).count = n + k
      ∧ (addEntries job d flush n es).unit.entriesTaken = d.entriesTaken + k
      ∧ ((addEntries job d flush n es).ending = .taken ↔ k = es.length) := by
  induction es generalizing d flush n with
  | nil => exact ⟨0, Nat.le_refl 0, rfl, rfl, by simp [addEntries]⟩
  | cons e rest ih =>
    rcases addEntries_cons_cases job d flush n e rest with ⟨ending, refused, stops⟩ | ⟨d', flush', taken, goesOn⟩
    · rw [stops]
      exact ⟨0, Nat.zero_le _, rfl, rfl, by simp [refused]⟩
    · obtain ⟨k, hk, count, entries, ending⟩ := ih d' flush' (n + 1)
      refine ⟨k + 1, Nat.succ_le_succ hk, ?_, ?_, ?_⟩
      · rw [goesOn, count]
        omega
      · rw [goesOn, entries, taken]
        omega
      · rw [goesOn, ending, List.length_cons, Nat.add_right_cancel_iff]

/-! ## The entries of a LIST_ADD -/

theorem allSome_map_some {α β : Type} {f : α → Option β} {g : α → β} {xs : List α} (h : ∀ x ∈ xs, f x = some (g x)) :
    allSome (xs.map f) = some (xs.map g) := by
  induction xs with
  | nil => rfl
  | cons x rest ih =>
    rw [List.map_cons, h x List.mem_cons_self, allSome, ih fun y hy => h y (List.mem_cons_of_mem x hy)]
    rfl

theorem allSome_eq_none {α : Type} {xs : List (Option α)} (h : none ∈ xs) : allSome xs = none := by
  induction xs with
  | nil => cases h
  | cons x rest ih =>
    cases x with
    | none => rfl
    | some v =>
      have later : none ∈ rest := (List.mem_cons.mp h).resolve_left nofun
      rw [allSome, ih later]
      rfl

/-- An argument in its ranges is an entry (R160). -/
theorem addEntryOf_eq {a : AddEntry} {action : Action} (ha : a.action = some action) (hid : a.tokenId ≠ 0)
    (h1 : 1 ≤ a.reason) (h127 : a.reason ≤ 127) :
    addEntryOf a = some { tokenId := a.tokenId, action := action, reason := a.reason } := by
  simp only [addEntryOf, ha, if_pos (And.intro hid ((within_iff 1 127 _).mpr ⟨h1, h127⟩))]

theorem addEntryOf_none {a : AddEntry} (h : a.tokenId = 0 ∨ a.action = none ∨ a.reason = 0 ∨ 127 < a.reason) :
    addEntryOf a = none := by
  unfold addEntryOf
  split
  case h_1 action ha =>
    refine if_neg fun hv => ?_
    obtain ⟨h1, h127⟩ := (within_iff 1 127 _).mp hv.2
    rcases h with hid | hact | h0 | hbig
    · exact hv.1 hid
    · cases ha.symm.trans hact
    · omega
    · omega
  case h_2 => rfl

theorem addEntriesOf_none {es : List AddEntry} (h : es.length = 0 ∨ 8 < es.length
    ∨ ∃ e ∈ es, e.tokenId = 0 ∨ e.action = none ∨ e.reason = 0 ∨ 127 < e.reason) : addEntriesOf es = none := by
  unfold addEntriesOf
  split
  · rename_i hlen
    obtain ⟨h1, h8⟩ := (within_iff 1 8 _).mp hlen
    obtain ⟨e, mem, he⟩ := (h.resolve_left (by omega)).resolve_left (by omega)
    exact allSome_eq_none (List.mem_map.mpr ⟨e, mem, addEntryOf_none he⟩)
  · rfl

theorem addEntriesOf_some {es : List AddEntry} (h1 : 1 ≤ es.length) (h8 : es.length ≤ 8)
    (h : ∀ e ∈ es, e.tokenId ≠ 0 ∧ e.action ≠ none ∧ 1 ≤ e.reason ∧ e.reason ≤ 127) :
    ∃ ds, addEntriesOf es = some ds ∧ ds.length = es.length := by
  have each : ∀ e ∈ es, addEntryOf e
      = some { tokenId := e.tokenId, action := e.action.getD .refuse, reason := e.reason } := fun e mem => by
    obtain ⟨hid, hact, hr1, hr127⟩ := h e mem
    obtain ⟨action, ha⟩ := Option.ne_none_iff_exists'.mp hact
    rw [addEntryOf_eq ha hid hr1 hr127, ha]
    rfl
  exact ⟨_, (if_pos ((within_iff 1 8 _).mpr ⟨h1, h8⟩)).trans (allSome_map_some each), List.length_map _⟩

end

/-! ## The commands -/

section
variable {s : State}

/-- A refused entry that stands first changes nothing. -/
theorem State.addToList_refused {e : DenyEntry} {r : StationReason} (h : s.deny.judgeAdd e = .refused r) :
    s.addToList [e] = (s, .refused r (.taken 0)) := by
  simp only [State.addToList, addEntries_one_refused _ h]
  rfl

theorem State.addToList_joins {e : DenyEntry} (h : s.deny.judgeAdd e = .joins) :
    s.addToList [e] = (s.withDeny (s.deny.addJoining e), .ok (.taken 1)) := by
  simp only [State.addToList, addEntries_one_joins _ h]

section
variable {e : DenyEntry} {buf : Buffer} (hb : s.deny.buffer = some buf)
include hb

theorem State.addToList_busy (hj : s.port.job ≠ none)
    (h : s.deny.judgeAdd e = .closingFlush ∨ s.deny.judgeAdd e = .linkedFlush) :
    s.addToList [e] = (s, .refused .busy (.taken 0)) := by
  simp only [State.addToList, Option.isSome_iff_ne_none.mpr hj, addEntries_one_busy hb h]

theorem State.addToList_closing (hj : s.port.job = none) (h : s.deny.judgeAdd e = .closingFlush) :
    s.addToList [e]
      = ((s.withDeny (s.deny.addClosing buf e).2).createJob (s.deny.addClosing buf e).1, .ok (.taken 1)) := by
  simp only [State.addToList, hj, Option.isSome_none, addEntries_one_closing hb h]

theorem State.addToList_linked (hj : s.port.job = none) (h : s.deny.judgeAdd e = .linkedFlush) :
    s.addToList [e]
      = ((s.withDeny (s.deny.addLinked buf e).2).createJob (s.deny.addLinked buf e).1, .ok (.taken 1)) := by
  simp only [State.addToList, hj, Option.isSome_none, addEntries_one_linked hb h]

end

/-- The answer tells how many entries were taken, all or fewer. -/
theorem State.addToList_counts {es : List DenyEntry} (h : es ≠ []) :
    ∃ n, (s.addToList es).1.deny.entriesTaken = s.deny.entriesTaken + n
      ∧ ((n = es.length ∧ (s.addToList es).2 = .ok (.taken n))
        ∨ (n < es.length ∧ ∃ r, (s.addToList es).2 = .refused r (.taken n))) := by
  obtain ⟨k, hk, count, entries, ending⟩ := addEntries_counts s.port.job.isSome es s.deny none 0
  rw [Nat.zero_add] at count
  have taken : (match (addEntries s.port.job.isSome s.deny none 0 es).flush with
      | some j => (s.withDeny (addEntries s.port.job.isSome s.deny none 0 es).unit).createJob j
      | none => s.withDeny (addEntries s.port.job.isSome s.deny none 0 es).unit).deny.entriesTaken
        = s.deny.entriesTaken + k := by
    split <;> exact entries
  unfold State.addToList
  dsimp only
  split
  case h_1 he => exact ⟨k, taken, .inl ⟨ending.mp he, by rw [count]⟩⟩
  case h_2 r he =>
    have some_left : k ≠ es.length := fun all => nomatch he.symm.trans (ending.mpr all)
    exact ⟨k, taken, .inr ⟨Nat.lt_of_le_of_ne hk some_left, r, by rw [count]⟩⟩
  case h_3 => exact ⟨0, rfl, .inr ⟨List.length_pos_iff.mpr h, .busy, rfl⟩⟩

section
variable (hr : s.keep.run = .running)
include hr

theorem exec_listBegin_answered {x : Answer} (h : s.collect.takeListBegin = (s.collect, x)) :
    exec (.listBegin (.fit ())) s = .next (s.answered (x.reply .listBegin)) :=
  congrArg Host.Outcome.next (State.onStation_answered hr x h)

theorem exec_listCommit_answered {x : Answer} (h : s.collect.takeListCommit = (s.collect, x)) :
    exec (.listCommit (.fit ())) s = .next (s.answered (x.reply .listCommit)) :=
  congrArg Host.Outcome.next (State.onStation_answered hr x h)

/-- LIST_ADD's state is judged before its entries (log 37). -/
theorem exec_listAdd_wrongState (h : s.deny.standby ≠ .opened) (es : List AddEntry) :
    exec (.listAdd (.fit es)) s = .next (s.answered (.refused .listAdd .wrongState .nothing)) :=
  congrArg Host.Outcome.next (State.onStation_answered hr (.no .wrongState) (if_neg h))

section
variable (h : s.deny.standby = .opened)
include h

theorem exec_listAdd_badArgument {es : List AddEntry} (hes : addEntriesOf es = none) :
    exec (.listAdd (.fit es)) s = .next (s.answered (.refused .listAdd .badArgument .nothing)) := by
  refine congrArg Host.Outcome.next (State.onStation_answered hr (.no .badArgument) ?_)
  rw [if_pos (show s.collect.deny.standby = .opened from h), hes]

/-- LIST_ADD with its entries in their ranges reaches the writer. -/
theorem exec_listAdd_fit {es : List AddEntry} {ds : List DenyEntry} (hes : addEntriesOf es = some ds) :
    exec (.listAdd (.fit es)) s
      = .next ((s.collect.addToList ds).1.setReply ((s.collect.addToList ds).2.reply .listAdd)) := by
  refine (congrArg Host.Outcome.next (State.onStation_fit hr .listAdd es _)).trans ?_
  rw [if_pos (show s.collect.deny.standby = .opened from h), hes]

theorem exec_listAdd_counts {es : List AddEntry} (h1 : 1 ≤ es.length) (h8 : es.length ≤ 8)
    (hes : ∀ e ∈ es, e.tokenId ≠ 0 ∧ e.action ≠ none ∧ 1 ≤ e.reason ∧ e.reason ≤ 127) :
    ∃ t n, exec (.listAdd (.fit es)) s = .next t ∧ t.deny.entriesTaken = s.deny.entriesTaken + n
      ∧ ((n = es.length ∧ t.station.pendingReply = some (.ok .listAdd (.taken n)))
        ∨ (n < es.length ∧ ∃ reason, t.station.pendingReply = some (.refused .listAdd reason (.taken n)))) := by
  obtain ⟨ds, hds, length⟩ := addEntriesOf_some h1 h8 hes
  have filled : ds ≠ [] := List.length_pos_iff.mp (length ▸ h1)
  obtain ⟨n, entries, answer⟩ := State.addToList_counts (s := s.collect) filled
  refine ⟨_, n, exec_listAdd_fit hr h hds, entries, ?_⟩
  rw [length] at answer
  refine answer.imp (fun ⟨hn, hx⟩ => ⟨hn, ?_⟩) (fun ⟨hn, r, hx⟩ => ⟨hn, r, ?_⟩) <;>
  · rw [hx]
    rfl

end

end

end

/-- Settles O53, by the command, the standby state and, for an entry, by the buffer. -/
theorem listCommandsFillTheStandbyBank : Obligations.ListCommandsFillTheStandbyBank := by
  unfold Obligations.ListCommandsFillTheStandbyBank
  intro s hr
  refine ⟨fun h => exec_listBegin_answered hr (State.takeListBegin_wrongState h), fun h => ⟨fun hb => ?busy, ?begun⟩,
    fun h => ⟨exec_listAdd_wrongState hr h, exec_listCommit_answered hr (State.takeListCommit_wrongState h)⟩,
    fun h => ⟨fun hg => exec_listCommit_answered hr (State.takeListCommit_limit h hg), fun hg => ?commit,
      fun es hes => exec_listAdd_badArgument hr h (addEntriesOf_none hes),
      fun es h1 h8 hes => exec_listAdd_counts hr h h1 h8 hes, ?entry⟩⟩
  case busy => exact exec_listBegin_answered hr (State.takeListBegin_busy h hb)
  case begun =>
    intro hj hq
    exact congrArg Host.Outcome.next (State.onStation_changed hr .yes (State.takeListBegin_begun h hj hq) fun _ => rfl)
  case commit =>
    have commit := State.takeListCommit_of (s := s.collect) h hg
    refine ⟨fun hj => exec_listCommit_answered hr (commit.trans (if_pos (Option.isSome_iff_ne_none.mpr hj))),
      fun hj => ?_⟩
    have free : ¬ s.collect.port.job.isSome = true := by
      rw [show s.collect.port.job = none from hj]
      exact Bool.false_ne_true
    exact congrArg Host.Outcome.next (State.onStation_changed hr .yes (commit.trans (if_neg free)) fun _ => rfl)
  case entry =>
    rintro id action reason hid h1 h127 c e refused taken flushed hc he rfl rfl rfl
    have args : addEntriesOf [{ tokenId := id, action := some action, reason := reason }] = some [e] := by
      rw [he]
      exact congrArg (fun o => allSome [o]) (addEntryOf_eq rfl hid h1 h127)
    have one := exec_listAdd_fit hr h args
    rw [← hc] at one
    have token : e.tokenId = id := by rw [he]
    rw [← token]
    have refuses {r : StationReason} (hj : s.collect.deny.judgeAdd e = .refused r) :
        exec c s = .next (s.answered (.refused .listAdd r (.taken 0))) := by
      rw [one, State.addToList_refused hj]
      rfl
    refine ⟨fun hb => ?empty, fun buf hb => ⟨fun hlt => refuses (DenyUnit.judgeAdd_order hb hlt), fun heq =>
      ⟨fun hx => refuses (DenyUnit.judgeAdd_duplicate hb heq hx), fun hx => ?new⟩, fun hgt => ?closing⟩⟩
    case empty =>
      rw [one, State.addToList_joins (s := s.collect) (DenyUnit.judgeAdd_empty hb),
        DenyUnit.addJoining_empty (d := s.collect.deny) hb]
      rfl
    case new =>
      have judged := DenyUnit.judgeAdd_new hb heq hx
      refine ⟨fun hl => ?joins, fun hl => ?full⟩
      case joins =>
        rw [one, State.addToList_joins (s := s.collect) (judged.trans (if_pos hl)),
          DenyUnit.addJoining_buffer (d := s.collect.deny) hb]
        rfl
      case full =>
        have full := judged.trans (if_neg hl.not_gt)
        refine ⟨fun h3 => refuses (full.trans (if_pos h3)),
          fun h3 hu => refuses ((full.trans (if_neg h3)).trans (if_pos hu)), fun h3 hu => ?_⟩
        have linked := (full.trans (if_neg h3)).trans (if_neg hu)
        refine ⟨fun hj => ?_, fun hj => ?_⟩
        · rw [one, State.addToList_busy (s := s.collect) hb hj (.inr linked)]
          rfl
        · rw [one, State.addToList_linked (s := s.collect) hb hj linked]
          rfl
    case closing =>
      have closing := DenyUnit.judgeAdd_closing hb hgt
      refine ⟨fun hj => ?_, fun hj => ?_⟩
      · rw [one, State.addToList_busy (s := s.collect) hb hj (.inl closing)]
        rfl
      · rw [one, State.addToList_closing (s := s.collect) hb hj closing]
        rfl

end Sys2Proof.Machine
end

section
/-!
PROOF. Grants and suspends of the list flash port (R177 to R180, R182): what the free port decides, what PORT_GRANT
carries out, when a running erase is suspended, and how the suspend ends.
-/
namespace Sys2Proof.Machine

section
variable {s : State}

/-! ## The free port's decision -/

theorem DenyUnit.wantsRead_head {d : DenyUnit} {q : Lookup} {rest : List Lookup} (hq : d.queue = q :: rest) :
    d.wantsRead = !q.reading := by
  simp only [DenyUnit.wantsRead, hq]

/-- A head lookup between two reads wants one (R176). -/
theorem DenyUnit.wantsRead_idleHead {d : DenyUnit} {q : Lookup} {rest : List Lookup} (hq : d.queue = q :: rest)
    (hw : q.reading = false) : d.wantsRead = true := by
  rw [DenyUnit.wantsRead_head hq, hw, Bool.not_false]

/-- With no such lookup at the head, the queue asks for nothing (R176). -/
theorem DenyUnit.wantsRead_none {d : DenyUnit} (h : ∀ q rest, d.queue = q :: rest → q.reading = true) :
    d.wantsRead = false := by
  cases hq : d.queue with
  | nil => simp only [DenyUnit.wantsRead, hq]
  | cons q rest => rw [DenyUnit.wantsRead_head hq, h q rest hq, Bool.not_true]

/-- A decided grant stands (R178, log 19). -/
theorem State.arbitrate_decided {g : Grant} (h : s.port.due = some g) : s.arbitrate = s := by
  cases ho : s.port.op with
  | some o => exact State.arbitrate_busy ho
  | none =>
    simp only [State.arbitrate, FlashPort.arbitrate, ho, h]
    rfl

theorem State.arbitrate_free (ho : s.port.op = none) (hd : s.port.due = none) :
    s.arbitrate = s.withPort { s.port with due := s.port.choose s.deny.wantsRead } := by
  simp only [State.arbitrate, FlashPort.arbitrate, ho, hd]

theorem State.arbitrate_op : s.arbitrate.port.op = s.port.op := FlashPort.arbitrate_op _ _

/-- A port left without a decision is as it was (R177). -/
theorem State.arbitrate_undecided (h : s.arbitrate.port.due = none) : s.arbitrate = s := by
  cases ho : s.port.op with
  | some o => exact State.arbitrate_busy ho
  | none =>
    cases hd : s.port.due with
    | some g => exact State.arbitrate_decided hd
    | none =>
      have free := State.arbitrate_free ho hd
      rw [free] at h
      rw [free, show s.port.choose s.deny.wantsRead = s.port.due from h.trans hd.symm]
      rfl

/-- Asked again, the port decides as before. -/
theorem State.arbitrate_arbitrate : s.arbitrate.arbitrate = s.arbitrate := by
  cases hd : s.arbitrate.port.due with
  | some g => exact State.arbitrate_decided hd
  | none => rw [State.arbitrate_undecided hd, State.arbitrate_undecided hd]

/-! ## R177's table -/

section
variable {p : FlashPort}

theorem FlashPort.choose_noJob (hj : p.job = none) (lookup : Bool) :
    p.choose lookup = if lookup then some (.lookup false) else none := by
  cases lookup <;> simp [FlashPort.choose, hj]

theorem FlashPort.choose_lookup (hj : p.job ≠ none) (h : p.streak < 8) : p.choose true = some (.lookup true) := by
  simp [FlashPort.choose, streakLimit, h, Option.isSome_iff_ne_none.mpr hj]

theorem FlashPort.choose_streak (hj : p.job ≠ none) (h : 8 ≤ p.streak) (lookup : Bool) :
    p.choose lookup = some .job := by
  simp [FlashPort.choose, streakLimit, hj, Nat.not_lt.mpr h, Option.isSome_iff_ne_none.mpr hj]

theorem FlashPort.choose_job (hj : p.job ≠ none) : p.choose false = some .job := by
  simp [FlashPort.choose, Option.isSome_iff_ne_none.mpr hj]

end

/-! ## PORT_GRANT -/

/-- The head lookup's read, counted as a start when it is the lookup's first (R152, R177). -/
theorem State.grantRead_of {q : Lookup} {rest : List Lookup} (hq : s.deny.queue = q :: rest) (jobWaits : Bool) :
    s.grantRead jobWaits = ((s.countStart q).withDeny { s.deny with
        queue := { q with captured := some (q.captured.getD s.deny.selector), reading := true } :: rest }).withPort
      { s.port with
        op := some (.pageRead .lookup (bankFlashPage (q.captured.getD s.deny.selector) q.nextPage)), due := none
        streak := if jobWaits then min 8 (s.port.streak + 1) else s.port.streak } := by
  simp only [State.grantRead, hq, DenyUnit.startRead, FlashPort.grantLookup, bumpTo_eq_min, streakLimit]

theorem FlashPort.grantJob_resume {p : FlashPort} {h : HeldErase} (hh : p.held = some h) (next : JobOp) (now : Nat) :
    p.grantJob next now = { p with
      held := some { h with suspended := false }, op := some (.sectorErase h.sector), due := none,
      runSince := some now, streak := 0 } := by
  simp only [FlashPort.grantJob, hh]

section
variable {p : FlashPort} (held : p.held = none) (now : Nat)
include held

theorem FlashPort.grantJob_erase (sector : Nat) : p.grantJob (.erase sector) now = { p with
    held := some { sector := sector, suspended := false, issued := now }, op := some (.sectorErase sector),
    due := none, suspendCount := 0, runSince := some now, streak := 0 } := by
  simp only [FlashPort.grantJob, held]

theorem FlashPort.grantJob_program (page : Nat) (bytes : Page) : p.grantJob (.program page bytes) now = { p with
    op := some (.pageProgram page bytes now), due := none, streak := 0 } := by
  simp only [FlashPort.grantJob, held]

theorem FlashPort.grantJob_rebuildRead (page : Nat) : p.grantJob (.rebuildRead page) now = { p with
    op := some (.pageRead .rebuild page), due := none, streak := 0 } := by
  simp only [FlashPort.grantJob, held]

end

theorem jobOp_rebuild {d : DenyUnit} {r : Rebuild} (hr : d.rebuild = some r) :
    jobOp d .rebuild = .rebuildRead (bankFlashPage d.selector r.position) := by
  simp only [jobOp, hr, Option.map_some, Option.getD_some]

/-! ### A settings store's operations, in their order (R175, R184) -/

section
variable (d : DenyUnit) (copy : SettingsCopy) {i : Nat}

theorem jobOp_storeErase (h : i < 3) : jobOp d (.settingsStore copy i) = .erase (640 + i) := if_pos h

theorem jobOp_storeContent (h3 : 3 ≤ i) (h36 : i < 36) :
    jobOp d (.settingsStore copy i) = .program (10241 + (i - 3)) (imagePageBytes copy (i - 3)) :=
  (if_neg (Nat.not_lt.mpr h3)).trans (if_pos h36)

theorem jobOp_storeHeader : jobOp d (.settingsStore copy 36) = .program 10240 imageHeaderBytes := rfl

end

section
variable (hr : s.keep.run = .running)
include hr

theorem exec_portGrant_busy (ho : s.port.op ≠ none) : exec .portGrant s = .next s := by
  obtain ⟨o, ho⟩ := Option.ne_none_iff_exists'.mp ho
  show execPortGrant s = _
  simp only [execPortGrant, State.whenRunning_of hr, ho]

theorem exec_portGrant_free (ho : s.port.op = none) : exec .portGrant s = .next s.arbitrate.carryOut := by
  show execPortGrant s = _
  simp only [execPortGrant, State.whenRunning_of hr, ho]

/-- PORT_GRANT carries out what the free port decides when it is asked. -/
theorem exec_portGrant_arbitrate (ho : s.port.op = none) : exec .portGrant s = exec .portGrant s.arbitrate := by
  rw [exec_portGrant_free hr ho, exec_portGrant_free (s := s.arbitrate) hr (State.arbitrate_op.trans ho),
    State.arbitrate_arbitrate]

theorem exec_portGrant_undecided (ho : s.port.op = none) (h : s.arbitrate.port.due = none) :
    exec .portGrant s = .next s := by
  have stands := State.arbitrate_undecided h
  rw [exec_portGrant_free hr ho, stands]
  rw [stands] at h
  simp only [State.carryOut, h]

theorem exec_portGrant_lookup {jobWaits : Bool} (ho : s.port.op = none) (hd : s.port.due = some (.lookup jobWaits)) :
    exec .portGrant s = .next (s.grantRead jobWaits) := by
  rw [exec_portGrant_free hr ho, State.arbitrate_decided hd]
  simp only [State.carryOut, hd]

theorem exec_portGrant_job {job : Job} (ho : s.port.op = none) (hd : s.port.due = some .job)
    (hj : s.port.job = some job) :
    exec .portGrant s = .next (s.withPort (s.port.grantJob (jobOp s.deny job) s.now)) := by
  rw [exec_portGrant_free hr ho, State.arbitrate_decided hd]
  simp only [State.carryOut, hd, hj]

end

/-! ## Suspends -/

/-- An erase is suspended with budget left and 2 ms of run (R179). -/
theorem FlashPort.maySuspend_iff {p : FlashPort} {sector since : Nat} (ho : p.op = some (.sectorErase sector))
    (hs : p.runSince = some since) (now : Nat) :
    p.maySuspend now = true ↔ p.suspendCount < 8 ∧ since + 2 ≤ now := by
  simp only [FlashPort.maySuspend, ho, hs, Bool.and_eq_true, decide_eq_true_eq]
  rfl

section
variable (hr : s.keep.run = .running)
include hr

/-- A suspend is issued for a lookup that wants a read (R179). -/
theorem exec_suspendIssue {sector since : Nat} (ho : s.port.op = some (.sectorErase sector))
    (hs : s.port.runSince = some since) (hw : s.deny.wantsRead = true) :
    exec .suspendIssue s = .next (if s.port.suspendCount < 8 ∧ since + 2 ≤ s.now then
      s.withPort { s.port with op := some (.suspend sector) } else s) := by
  show execSuspendIssue s = _
  simp only [execSuspendIssue, State.whenRunning_of hr, ho, hw, Bool.true_and, FlashPort.maySuspend_iff ho hs]

theorem exec_suspendEnd {sector : Nat} (ho : s.port.op = some (.suspend sector)) (status : SuspendStatus) :
    exec (.suspendEnd status) s = .next (s.suspendEnded status).arbitrate := by
  show execSuspendEnd status s = _
  simp only [execSuspendEnd, State.whenRunning_of hr, ho]

end

/-! ### The end of an erase does not depend on the operation that it ends -/

theorem State.failJob_anyOp (o op : Option FlashOp) :
    (s.withPort { s.port with op := o }).failJob op = s.failJob op := rfl

theorem State.eraseEnded_anyOp (o : Option FlashOp) (good : Bool) :
    (s.withPort { s.port with op := o }).eraseEnded good = s.eraseEnded good := rfl

/-! ### A suspend's end, before and at the erase's limit (R179, R182) -/

section
variable {h : HeldErase}

theorem State.suspendHeld_of (hh : s.port.held = some h) :
    s.suspendHeld = (s.withPort { s.port with
        op := none, due := none, held := some { h with suspended := true }
        suspendCount := s.port.suspendCount + 1 }).count
      fun x => { x with eraseSuspends := bump x.eraseSuspends } := by
  simp only [State.suspendHeld, hh, Option.map_some]

theorem State.suspendHeld_held (hh : s.port.held = some h) :
    s.suspendHeld.port.held = some { h with suspended := true } := by
  rw [State.suspendHeld_of hh]
  rfl

end

section
variable (hr : s.keep.run = .running) {sector : Nat} {h : HeldErase} (ho : s.port.op = some (.suspend sector))
  (hh : s.port.held = some h)
include hr ho hh

theorem exec_suspendEnd_suspended_inTime (hn : s.now < h.issued + 2000) :
    exec (.suspendEnd .suspended) s = .next s.suspendHeld.arbitrate := by
  have before : s.suspendHeld.actLimit = s.suspendHeld :=
    State.actLimit_before fun e he => by cases (State.suspendHeld_held hh).symm.trans he; exact hn
  rw [exec_suspendEnd hr ho]
  simp only [State.suspendEnded, before]

/-- The suspend that took hold counts, and the erase ends failed (log 18). -/
theorem exec_suspendEnd_suspended_atLimit (hn : h.issued + 2000 ≤ s.now) :
    exec (.suspendEnd .suspended) s = exec .operationTimeLimit s.suspendHeld := by
  have reached : s.suspendHeld.actLimit = s.suspendHeld.failJob (some .reset) :=
    State.actLimit_reached (State.suspendHeld_held hh) hn
  rw [exec_suspendEnd hr ho, exec_operationTimeLimit_erase (s := s.suspendHeld) hr (.inl rfl)]
  simp only [State.suspendEnded, reached, State.failJob_reset_arbitrate]

/-- An erase that ended before the suspend took hold ends as any erase does. -/
theorem exec_suspendEnd_ended_inTime (hn : s.now < h.issued + 2000) (good : Bool) :
    exec (.suspendEnd (.ended good)) s
      = exec (.sectorEraseEnd good) (s.withPort { s.port with op := some (.sectorErase sector) }) := by
  have erase := exec_sectorEraseEnd (s := s.withPort { s.port with op := some (.sectorErase sector) }) hr rfl hh good
  have ended : s.suspendEnded (.ended good) = s.eraseEnded good := by
    simp only [State.suspendEnded, FlashPort.eraseLimitReached_of hh, decide_eq_true_eq, if_neg (Nat.not_le.mpr hn)]
  rw [exec_suspendEnd hr ho, ended, erase, State.withPort_now, if_neg hn.asymm, State.eraseEnded_anyOp]

theorem exec_suspendEnd_ended_atLimit (hn : h.issued + 2000 ≤ s.now) (good : Bool) :
    exec (.suspendEnd (.ended good)) s
      = exec .operationTimeLimit (s.withPort { s.port with op := some (.sectorErase sector) }) := by
  have ended : s.suspendEnded (.ended good) = s.failJob (some .reset) := by
    simp only [State.suspendEnded, FlashPort.eraseLimitReached_of hh, decide_eq_true_eq, if_pos hn,
      State.actLimit_reached hh hn]
  have limit := State.actLimit_reached (s := s.withPort { s.port with op := some (.sectorErase sector) }) hh hn
  have erase := exec_operationTimeLimit_erase (s := s.withPort { s.port with op := some (.sectorErase sector) }) hr
    (.inr ⟨sector, rfl⟩)
  rw [exec_suspendEnd hr ho, ended, State.failJob_reset_arbitrate, erase, limit, State.failJob_anyOp]

end

end

/-- Settles O54, by R177's table, the grant carried out, and the suspend issued and ended. -/
theorem portGrantsAndSuspends : Obligations.PortGrantsAndSuspends := by
  unfold Obligations.PortGrantsAndSuspends
  refine ⟨fun s => ⟨?stands, ?decides⟩, fun s hr => ⟨exec_portGrant_busy hr, exec_portGrant_arbitrate hr,
    exec_portGrant_undecided hr, ?lookup, ?job, ?issue, ?suspended⟩⟩
  case stands =>
    rintro (ho | hd)
    · obtain ⟨o, ho⟩ := Option.ne_none_iff_exists'.mp ho
      exact State.arbitrate_busy ho
    · obtain ⟨g, hd⟩ := Option.ne_none_iff_exists'.mp hd
      exact State.arbitrate_decided hd
  case decides =>
    rintro ho hd decides rfl
    rw [State.arbitrate_free ho hd]
    refine ⟨?wanted, fun hw => ?unwanted⟩
    case wanted =>
      rintro ⟨q, rest, hq, hw⟩
      rw [DenyUnit.wantsRead_idleHead hq hw]
      exact ⟨fun hj => by rw [FlashPort.choose_noJob hj, if_pos rfl],
        fun hj hs => by rw [FlashPort.choose_lookup hj hs], fun hj hs => by rw [FlashPort.choose_streak hj hs]⟩
    case unwanted =>
      rw [DenyUnit.wantsRead_none hw]
      refine ⟨fun hj => ?_, fun hj => by rw [FlashPort.choose_job hj]⟩
      rw [FlashPort.choose_noJob hj, if_neg Bool.false_ne_true, ← hd]
      rfl
  case lookup =>
    rintro q rest bank jobWaits ho hd hq rfl t rfl
    obtain ⟨again, first⟩ := s.countStart_of q
    rw [exec_portGrant_lookup hr ho hd, State.grantRead_of hq]
    refine ⟨fun hc => by rw [again hc], fun hc => ?_⟩
    rw [first hc]
    rfl
  case job =>
    intro job ho hd hj
    rw [exec_portGrant_job hr ho hd hj]
    refine ⟨fun h hh => by rw [FlashPort.grantJob_resume hh], ?_⟩
    rintro held erase program rfl rfl
    have erases (sector : Nat) := FlashPort.grantJob_erase held s.now sector
    have programs (page : Nat) (bytes : Page) := FlashPort.grantJob_program held s.now page bytes
    refine ⟨?listErase, ?page, ?header, ?rebuild, ?store⟩
    case listErase =>
      rintro i rfl
      simp only [jobOp, erases]
      rfl
    case page =>
      rintro target content (rfl | rfl) <;>
      · simp only [jobOp, programs]
        rfl
    case header =>
      rintro rfl
      simp only [jobOp, programs]
      rfl
    case rebuild =>
      rintro r rfl hrb
      rw [jobOp_rebuild hrb, FlashPort.grantJob_rebuildRead held]
    case store =>
      rintro copy i rfl
      refine ⟨fun h => ?_, fun h3 h36 => ?_, ?_⟩
      · rw [jobOp_storeErase s.deny copy h, erases]
      · rw [jobOp_storeContent s.deny copy h3 h36, programs]
      · rintro rfl
        rw [jobOp_storeHeader, programs]
  case issue =>
    intro sector q rest since ho hs hq hw
    rw [exec_suspendIssue hr ho hs (DenyUnit.wantsRead_idleHead hq hw)]
    refine ⟨fun hc hn => by rw [if_pos ⟨hc, hn⟩], fun h => ?_⟩
    rw [if_neg (by omega)]
  case suspended =>
    rintro sector h t ho hh rfl
    rw [← State.suspendHeld_of hh]
    exact ⟨fun hn => ⟨exec_suspendEnd_suspended_inTime hr ho hh hn, exec_suspendEnd_ended_inTime hr ho hh hn⟩,
      fun hn => ⟨exec_suspendEnd_suspended_atLimit hr ho hh hn, exec_suspendEnd_ended_atLimit hr ho hh hn⟩⟩

end Sys2Proof.Machine
end

section
/-!
PROOF. The values after a power-on (R1, R40, R69, R70, R94, R130, R150, R172, R187, R207, R214, R220), block by block.
-/
namespace Sys2Proof.Machine

theorem State.reset_lane (l : LaneId) : State.reset.lane l = Lane.initial .clear := PerLane.get_all _ l

theorem State.reset_berth (b : BerthId) : State.reset.berth b = Berth.initial := by
  cases b <;> rfl

/-- Every entry of the power-on fare table is EMPTY, whatever selects it (R94). -/
theorem fareAt_fareEmpty (page index : Nat) : fareAt fareEmpty page index = .empty := by
  unfold fareAt fareEmpty
  rw [List.getD_eq_getElem?_getD, List.getElem?_replicate]
  split <;> rfl

/-- Settles O4, block by block. -/
theorem resetLeavesThePowerOnValues : Obligations.ResetLeavesThePowerOnValues := by
  unfold Obligations.ResetLeavesThePowerOnValues
  simp only [State.reset_lane, State.call, State.reset_berth]
  refine ⟨rfl, rfl, rfl, rfl, fun _ => ⟨rfl, rfl, rfl, rfl, rfl, rfl, rfl, rfl, rfl⟩, fun _ => ⟨rfl, rfl⟩,
    fun page index _ _ => fareAt_fareEmpty page index, ?units⟩
  case units =>
    repeat' apply And.intro
    all_goals rfl

end Sys2Proof.Machine
end

section
/-!
PROOF. The two laws of the trip log, its reserve (R190) and its sequence numbers (R188), through the shared operations.
`KeepsLog s t` says that both are kept from `s` to `t`.
-/
namespace Sys2Proof.Machine

/-! ## The two laws together -/

/-- From `s` to `t` the law of the reserve is kept, and that of the sequence numbers. -/
def KeepsLog (s t : State) : Prop := (LogLaw s → LogLaw t) ∧ (SequenceLaw s → SequenceLaw t)

namespace KeepsLog

theorem refl (s : State) : KeepsLog s s := ⟨id, id⟩

theorem trans {s t u : State} (h : KeepsLog s t) (k : KeepsLog t u) : KeepsLog s u := ⟨k.1 ∘ h.1, k.2 ∘ h.2⟩

/-- The log, the number of holdings and that of open calls as they were. -/
theorem of_eq {s t : State} (log : t.log = s.log) (held : t.holdings = s.holdings)
    (opened : t.openCalls = s.openCalls) : KeepsLog s t :=
  ⟨fun h => LogLawWith.congr (k := 0) h log held opened, fun h => by rwa [SequenceLaw, log]⟩

end KeepsLog

/-- The lanes, the berths and the log as they were. -/
theorem Aside.keepsLog {s t : State} (h : Aside s t) (log : t.log = s.log) : KeepsLog s t :=
  .of_eq log (by rw [State.holdings, h.lanes]; rfl) (by rw [State.openCalls, h.berths]; rfl)

/-! ## Sequence numbers -/

/-- Records that follow the youngest one go on the run. -/
theorem seqRun.append_numbered {rs : List Record} {n : BitVec 16} (h : seqRun rs n) (cs : List Content) :
    seqRun (rs ++ numbered n cs) (n + BitVec.ofNat 16 cs.length) := by
  induction cs generalizing rs n with
  | nil => simpa [numbered] using h
  | cons c rest ih =>
    have further := ih (h.snoc c)
    rw [List.append_assoc, BitVec.add_assoc] at further
    rwa [List.length_cons, Nat.add_comm, BitVec.ofNat_add]

/-- Holdings given back leave records in order (R62, R64). -/
theorem GaveBack.sequence {cs : List Content} {n : Nat} {ids : List TokenId} {s t : State}
    (h : GaveBack cs n ids s t) (k : SequenceLaw s) : SequenceLaw t := by
  rw [SequenceLaw, h.log]
  exact seqRun.append_numbered k cs

/-! ## One lane changed -/

section
variable (s : State) (l : LaneId)

/-- A lane changed that holds as many slots as before. -/
theorem State.updLane_keepsLog (f : Lane → Lane) (h : (f (s.lane l)).holdings = (s.lane l).holdings) :
    KeepsLog s (s.updLane l f) := ⟨fun k => LogLawWith.updLane (k := 0) k l f h, id⟩

/-- Every lane changed, each holding as many slots as before. -/
theorem State.mapLanes_keepsLog (f : Lane → Lane) (h : ∀ x : Lane, (f x).holdings = x.holdings) :
    KeepsLog s (s.withLanes (s.lanes.map f)) :=
  .of_eq rfl (PerLane.sum_congr fun l => by rw [State.withLanes_lanes, PerLane.get_map, h]) rfl

theorem State.countLane_keepsLog (f : LaneStats → LaneStats) : KeepsLog s (s.countLane l f) :=
  s.updLane_keepsLog l _ rfl

theorem State.replyLane_keepsLog (r : Option LaneReply) : KeepsLog s (s.replyLane l r) :=
  s.updLane_keepsLog l _ rfl

/-- A context that holds no offer set for another. -/
theorem State.setContext_keepsLog {c : Context} (h : (s.lane l).ctx.offers = 0) (hc : c.offers = 0) :
    KeepsLog s (s.setContext l c) :=
  s.updLane_keepsLog l _ (by simp only [Lane.holdings, h, hc])

theorem State.settle_keepsLog : KeepsLog s (s.settle l) := by
  unfold State.settle
  split
  · exact s.updLane_keepsLog l _ (Lane.answerTake_holdings { s.lane l with takeHeld := false } s.now)
  · exact .refl s

theorem State.withdrawLookup_keepsLog : KeepsLog s (s.withdrawLookup l) :=
  (s.withdrawLookup_aside l).keepsLog (s.withdrawLookup_log l).1

/-- An evaluation cancelled at a lane that holds no offer (R127). -/
theorem State.cancelEvaluation_keepsLog (h : (s.lane l).ctx.offers = 0) : KeepsLog s (s.cancelEvaluation l) :=
  (s.withdrawLookup_keepsLog l).trans
    (State.setContext_keepsLog _ l (by rwa [(s.withdrawLookup_aside l).lane]) rfl)

/-! ## Unreserved appends -/

theorem State.appendUnreserved_keepsLog (c : Content) : KeepsLog s (s.appendUnreserved c) := by
  refine ⟨fun h => LogLawWith.appendUnreserved (k := 0) h c, fun h => ?_⟩
  unfold State.appendUnreserved
  split
  · rename_i g hg; exact TripLog.appendUnreserved_seqRun h hg
  · exact h

theorem State.appendAll_keepsLog (cs : List Content) : KeepsLog s (cs.foldl State.appendUnreserved s) := by
  induction cs generalizing s with
  | nil => exact .refl s
  | cons c rest ih => exact (s.appendUnreserved_keepsLog c).trans (ih _)

theorem State.takeAsked_keepsLog : KeepsLog s s.takeAsked := State.appendAll_keepsLog (s.withAsked []) s.asked

theorem State.askRefusal_keepsLog (r : Reason) (c : Content) : KeepsLog s (s.askRefusal r c) := by
  unfold State.askRefusal
  split
  · exact .refl s
  · exact s.takeAsked_keepsLog.trans (State.appendUnreserved_keepsLog _ c)

end

/-! ## One berth changed -/

section
variable (s : State) (b : BerthId)

theorem State.setCall_log (c : Option Call) : (s.setCall b c).log = s.log := by
  rw [State.setCall_eq]
  rfl

theorem State.updCall_log (f : Call → Call) : (s.updCall b f).log = s.log := by
  unfold State.updCall
  split
  · exact s.setCall_log b _
  · rfl

/-- A berth replaced that is open, or VACANT, as before. -/
theorem State.setBerth_keepsLog (x : Berth) (h : x.openCount = (s.berth b).openCount) :
    KeepsLog s (s.setBerth b x) := by
  have opened := s.setBerth_openCalls b x
  exact .of_eq rfl rfl (by omega)

theorem State.updCall_keepsLog (f : Call → Call) : KeepsLog s (s.updCall b f) :=
  ⟨fun h => LogLawWith.updCall (k := 0) h b f, fun h => by rwa [SequenceLaw, State.updCall_log]⟩

/-- An open call's record replaced by another. -/
theorem State.setCall_keepsLog {s : State} {b : BerthId} {c : Call} (hc : s.call b = some c) (d : Call) :
    KeepsLog s (s.setCall b (some d)) := by
  have updated := s.updCall_keepsLog b fun _ => d
  rwa [State.updCall_some hc] at updated

/-- A berth that opens takes up the slot its ARRIVE reserved (R9). -/
theorem LogLawWith.openBerth {k : Nat} {s : State} (h : LogLawWith (k + 1) s) {b : BerthId} (hv : s.call b = none)
    (c : Call) : LogLawWith k (s.setCall b (some c)) := by
  obtain ⟨reserve, bound⟩ := h
  have before : (s.berth b).openCount = 0 := by
    have : (s.berth b).call = none := hv
    simp [Berth.openCount, this]
  have after : Berth.openCount { s.berth b with call := some c } = 1 := rfl
  have opened := s.setBerth_openCalls b { s.berth b with call := some c }
  rw [State.setCall_eq]
  refine ⟨?_, bound⟩
  show s.log.reserve = s.holdings + (s.setBerth b { s.berth b with call := some c }).openCalls + k
  omega

/-- The end of a call (R8): its DEPARTURE record goes into its slot. -/
theorem State.endCall_keepsLog (n : Bool) : KeepsLog s (s.endCall b n) := by
  refine ⟨fun h => LogLawWith.endCall (k := 0) h b n, fun h => ?_⟩
  unfold State.endCall
  split
  · rw [SequenceLaw, State.setCall_log]
    exact h.snoc _
  · exact h

theorem State.endCall_vacant (n : Bool) : (s.endCall b n).call b = none := by
  unfold State.endCall
  split
  · exact State.setCall_call _ b none
  · assumption

end

/-! ## Holdings given back -/

section
variable (s : State) (l : LaneId) (b : BerthId)

theorem State.dropOffer_keepsLog {o : Offer} (h : (s.lane l).ctx = .offer o) : KeepsLog s (s.dropOffer l o) :=
  ⟨fun k => LogLawWith.dropOffer (k := 0) k l o h, (s.dropOffer_gaveBack l o).sequence⟩

theorem State.voidEntry_keepsLog (e : Entry) {rest : List Entry} (r : VoidReason)
    (h : rest.length + 1 = (s.lane l).entries.length) : KeepsLog s (s.voidEntry l e rest r) :=
  ⟨fun k => LogLawWith.voidEntry (k := 0) k l e rest r h, (s.voidEntry_gaveBack l e rest r).sequence⟩

theorem State.voidAll_keepsLog (r : VoidReason) : KeepsLog s (s.voidAll l r) :=
  ⟨fun k => LogLawWith.voidAll (k := 0) k l r, (State.voidList_gaveBack l r _ s).sequence⟩

theorem State.endHoldings_keepsLog (r : VoidReason) : KeepsLog s (s.endHoldings l r) :=
  ⟨fun k => LogLawWith.endHoldings (k := 0) k l r, (s.endHoldings_gaveBack l r).sequence⟩

theorem State.endEveryHolding_keepsLog (ls : List LaneId) : KeepsLog s (s.endEveryHolding ls) := by
  induction ls generalizing s with
  | nil => exact .refl s
  | cons l rest ih => exact (s.endHoldings_keepsLog l .restart).trans (ih _)

theorem State.endBerthHoldings_keepsLog (r : VoidReason) :
    KeepsLog s (s.endBerthHoldings b r LaneId.list) :=
  ⟨LogLawWith.endBerthHoldings (k := 0) b r LaneId.list s,
    (State.endBerthHoldings_gaveBack b r LaneId.list_nodup s).sequence⟩

theorem State.releaseHoldings_keepsLog (r : VoidReason) : KeepsLog s (s.releaseHoldings b r) :=
  (s.endBerthHoldings_keepsLog b r).trans (State.updCall_keepsLog _ b _)

/-- A call ended with its holdings released (R23, R36). -/
theorem State.vacate_keepsLog (r : VoidReason) (n : Bool) : KeepsLog s ((s.releaseHoldings b r).endCall b n) :=
  (s.releaseHoldings_keepsLog b r).trans (State.endCall_keepsLog _ b n)

/-! ## Passages -/

theorem State.sendHolding_log (bo : Option BerthId) (m : Holding) : (s.sendHolding bo l m).log = s.log := by
  cases bo with
  | none => rfl
  | some b => exact s.updCall_log b _

/-- A commit (R78) puts its record into the entry's slot. -/
theorem State.commitEntry_keepsLog (e : Entry) {rest : List Entry} (h : rest.length + 1 = (s.lane l).entries.length) :
    KeepsLog s (s.commitEntry l e rest) := by
  unfold State.commitEntry
  refine ⟨fun k => ?reserve, fun k => ?sequence⟩
  case reserve =>
    have given : LogLawWith 1 (s.updLane l fun x =>
        { x with entries := rest, stats := { x.stats with committed := bump x.stats.committed } }) :=
      LogLawWith.giveUp (k := 0) k l _ (by simp only [Lane.holdings]; omega)
    exact LogLawWith.sendHolding (k := 0) ((given.appendReserved _).withTaps _) _ l _
  case sequence =>
    rw [SequenceLaw, State.sendHolding_log]
    exact seqRun.snoc k _

theorem State.passAtBerth_keepsLog (f : Call → Call) : KeepsLog s (s.passAtBerth b f) := by
  unfold State.passAtBerth
  split
  · rename_i c hc; exact State.setCall_keepsLog hc _
  · exact .refl s

theorem State.tailgate_keepsLog : KeepsLog s (s.tailgate l) := by
  have recorded := (s.appendUnreserved_keepsLog (.tailgate s.clock.calendar l (s.lane l).role.boards)).trans
    (State.countLane_keepsLog _ l fun x => { x with tailgates := bump x.tailgates })
  unfold State.tailgate
  dsimp only
  split
  · exact recorded.trans (State.passAtBerth_keepsLog _ _ _)
  · exact recorded

theorem State.takePassage_keepsLog : KeepsLog s (s.takePassage l) := by
  unfold State.takePassage State.matchPassage
  split
  · exact .refl s
  · exact s.passAtBerth_keepsLog _ _
  · exact s.passAtBerth_keepsLog _ _
  all_goals
    split
    · rename_i e he
      exact s.commitEntry_keepsLog l e (entries_found he).2.1
    · exact s.tailgate_keepsLog l

end

/-! ## Decisions -/

section
variable {s : State} {l : LaneId} (free : (s.lane l).ctx.offers = 0)
include free

/-- A REFUSE at a lane that holds no offer (R125, R126). -/
theorem State.decideRefuse_keepsLog (p : Progress) (r : Reason) (d : Option Nat) :
    KeepsLog s (s.decideRefuse l p r d) := by
  have refused : KeepsLog s (s.updLane l fun x =>
      { x with ctx := .refused (p.refused r d), stats := { x.stats with refused := bump x.stats.refused } }) :=
    s.updLane_keepsLog l _ (by simp only [Lane.holdings, free]; rfl)
  unfold State.decideRefuse
  refine KeepsLog.trans ?_ (State.settle_keepsLog _ l)
  split
  · exact refused.trans (State.askRefusal_keepsLog _ _ _)
  · exact refused

omit free in
theorem State.decideOffer_sequence (o : Offer) (h : SequenceLaw s) : SequenceLaw (s.decideOffer l o) :=
  (State.settle_keepsLog (s.updLane l _) l).2 h

/-- The third claim and the verdict keep the sequence numbers: a granted place changes no record (R123). -/
theorem State.decidePlace_sequence (e : Evaluation) (o : Offer) (h : SequenceLaw s) :
    SequenceLaw (s.decidePlace l e o) := by
  unfold State.decidePlace
  split
  · exact State.decideOffer_sequence o h
  · rename_i b _
    obtain ⟨lanes, log, -⟩ := s.claimPlace_keeps b l
    split
    · rename_i t hc
      rw [hc] at log
      exact State.decideOffer_sequence o (by rwa [SequenceLaw, log])
    · rename_i t r hc
      rw [hc] at lanes log
      refine (State.decideRefuse_keepsLog (s := t.releaseSlot.releaseUse e.token.id) ?_ _ _ _).2 ?_
      · show (t.lanes.get l).ctx.offers = 0
        rwa [lanes]
      · show seqRun t.log.records t.log.nextSeq
        rwa [log]

/-- Checks 9 to 11 at a lane that holds no offer: the granted slot goes to the offer, or back (R120 to R124). -/
theorem State.decideClaims_keepsLog (e : Evaluation) (flags : DenyFlags) :
    KeepsLog s (s.decideClaims l e flags) := by
  refine ⟨fun h => LogLawWith.decideClaims (k := 0) h l e flags free, fun h => ?_⟩
  unfold State.decideClaims
  split
  · exact (State.decideRefuse_keepsLog free _ _ _).2 h
  · split
    · exact (State.decideRefuse_keepsLog free _ _ _).2 h
    · rename_i taps _
      split
      · exact (State.decideRefuse_keepsLog (s := (s.withTaps taps).releaseUse e.token.id) free _ _ _).2 h
      · rename_i g hg
        exact State.decidePlace_sequence (s := (s.withTaps taps).withLog g) free _ _
          (TripLog.reserveSlot_seqRun h hg)

theorem State.applyPolicy_keepsLog (e : Evaluation) : KeepsLog s (s.applyPolicy l e) := by
  unfold State.applyPolicy
  split
  · exact State.decideClaims_keepsLog free e _
  · exact State.decideRefuse_keepsLog free _ _ _

theorem State.decideLookup_keepsLog (e : Evaluation) (o : LookupOutcome) : KeepsLog s (s.decideLookup l e o) := by
  unfold State.decideLookup
  split
  · exact State.decideClaims_keepsLog free e _
  · exact State.decideClaims_keepsLog free e _
  · exact State.decideRefuse_keepsLog free _ _ _
  · exact State.applyPolicy_keepsLog free e

/-- A lookup queued (R115): the context waits. -/
theorem State.queueLookup_keepsLog (e : Evaluation) : KeepsLog s (s.queueLookup l e) := by
  have queued : Aside s (s.withDeny { s.deny with queue := s.deny.queue ++ [newLookup l e.token.id] }).arbitrate :=
    (s.withDeny_aside _).trans (State.arbitrate_aside _)
  refine (queued.keepsLog rfl).trans (State.updLane_keepsLog _ l _ ?_)
  rw [queued.lane, Lane.holdings, Lane.holdings, free]
  rfl

/-- The new evaluation of a TAP (R108, R115). -/
theorem State.startEvaluation_keepsLog (t : TokenRecord) : KeepsLog s (s.startEvaluation l t) := by
  unfold State.startEvaluation State.denyCheck
  split
  · exact State.decideRefuse_keepsLog free _ _ _
  · split
    · exact State.applyPolicy_keepsLog free _
    · exact State.decideClaims_keepsLog free _ _
    · exact State.queueLookup_keepsLog free _

end

section
variable (s : State) (l : LaneId)

theorem State.clearForTap_keepsLog : KeepsLog s (s.clearForTap l) := by
  cases h : (s.lane l).ctx <;> simp only [State.clearForTap, h]
  case free => exact .refl s
  case waiting =>
    exact (s.cancelEvaluation_keepsLog l (by rw [h]; rfl)).trans (State.countLane_keepsLog _ l _)
  case offer => exact s.dropOffer_keepsLog l h
  case refused => exact s.setContext_keepsLog l (by rw [h]; rfl) rfl

theorem State.takeTap_keepsLog (t : TokenRecord) : KeepsLog s (s.takeTap l t) := by
  have tapped : KeepsLog s (s.updLane l Lane.tapped) := s.updLane_keepsLog l _ rfl
  obtain ⟨-, -, free⟩ := (s.updLane l Lane.tapped).clearForTap_spec l
  exact (tapped.trans (State.clearForTap_keepsLog _ l)).trans (State.startEvaluation_keepsLog free t)

/-- A lookup's outcome decides the evaluation that waits for it (R116). -/
theorem State.handOutcome_keepsLog (o : LookupOutcome) : KeepsLog s (s.handOutcome l o) := by
  unfold State.handOutcome
  split
  · rename_i e d h; exact State.decideLookup_keepsLog (by rw [h]; rfl) e o
  all_goals exact .refl s

end

end Sys2Proof.Machine
end

section
/-!
PROOF. Every command and every step keeps the two laws of the trip log (R188, R190).
-/
namespace Sys2Proof.Machine

section
variable (s : State) (l : LaneId) (b : BerthId)

/-! ## The berths by their orders -/

/-- An accepted ARRIVE at a VACANT berth reserves the slot of its DEPARTURE record (R9, R190). -/
theorem State.openCall_keepsLog (a : ArriveArgs) (hv : s.call b = none) : KeepsLog s (s.openCall b a).1 := by
  unfold State.openCall
  split
  · split
    · exact .refl s
    · rename_i g hg
      have opened (c : Call) : KeepsLog s ((s.withLog g).setCall b (some c)) := by
        refine ⟨fun h => (LogLawWith.reserveSlot (k := 0) h hg).openBerth hv c, fun h => ?_⟩
        rw [SequenceLaw, State.setCall_log]
        exact TripLog.reserveSlot_seqRun h hg
      dsimp only
      split
      · exact (opened _).trans (State.setBerth_keepsLog _ b _ rfl)
      · exact opened _
  · exact .refl s

theorem State.takeArrive_keepsLog (a : ArriveArgs) : KeepsLog s (s.takeArrive b a).1 := by
  unfold State.takeArrive State.replaceVessel
  split
  · rename_i hv; exact s.openCall_keepsLog b a hv
  · rename_i c hc
    split
    · split
      · exact State.setCall_keepsLog hc _
      · split
        · exact (s.vacate_keepsLog b .linkLost true).trans
            (State.openCall_keepsLog _ b a (State.endCall_vacant _ b true))
        · exact .refl s
    · split <;> exact .refl s

theorem State.takeRampOpen_keepsLog : KeepsLog s (s.takeRampOpen b).1 := by
  unfold State.takeRampOpen
  split
  · exact .refl s
  · rename_i c hc
    split
    · exact .refl s
    · split
      · exact State.setCall_keepsLog hc _
      all_goals exact .refl s

theorem State.takeDepartReq_keepsLog : KeepsLog s (s.takeDepartReq b).1 := by
  unfold State.takeDepartReq
  split
  · exact .refl s
  · rename_i c hc
    split
    · exact .refl s
    · split
      case h_1 | h_2 => exact State.setCall_keepsLog hc _
      all_goals exact .refl s

theorem State.takeHandover_keepsLog : KeepsLog s (s.takeHandover b).1 := by
  unfold State.takeHandover
  split
  · exact .refl s
  · split
    · exact .refl s
    · split
      · exact s.endCall_keepsLog b false
      all_goals exact .refl s

theorem State.takeFromLane_keepsLog (m : Holding) : KeepsLog s (s.takeFromLane b l m) := by
  unfold State.takeFromLane
  split
  · exact .refl s
  · rename_i c hc
    split
    · exact .refl s
    · exact State.setCall_keepsLog hc _

theorem State.takeSetCap_keepsLog (cap : Nat) : KeepsLog s (s.takeSetCap b cap).1 := by
  unfold State.takeSetCap
  split
  · split
    · exact .refl s
    · rename_i c hc; exact State.setCall_keepsLog hc _
  · exact .refl s

theorem State.takeClose_keepsLog : KeepsLog s (s.takeClose b).1 := by
  unfold State.takeClose
  split
  · exact .refl s
  · rename_i c hc
    split
    case h_1 | h_2 => exact .refl s
    all_goals exact State.setCall_keepsLog hc _

theorem State.takeReopen_keepsLog : KeepsLog s (s.takeReopen b).1 := by
  unfold State.takeReopen
  split
  · exact .refl s
  · rename_i c hc
    split
    · exact State.setCall_keepsLog hc _
    all_goals exact .refl s

theorem State.takeVacate_keepsLog : KeepsLog s (s.takeVacate b).1 := by
  unfold State.takeVacate
  split
  · exact .refl s
  · exact s.vacate_keepsLog b .forced true

/-! ## The lanes and the log by the station's orders -/

theorem State.clearContext_keepsLog : KeepsLog s (s.clearContext l) := by
  cases h : (s.lane l).ctx <;> simp only [State.clearContext, h]
  case free => exact .refl s
  case waiting => exact (s.cancelEvaluation_keepsLog l (by rw [h]; rfl)).trans (State.settle_keepsLog _ l)
  case offer => exact s.dropOffer_keepsLog l h
  case refused => exact s.setContext_keepsLog l (by rw [h]; rfl) rfl

theorem State.takeClear_keepsLog : KeepsLog s (s.takeClear l).1 :=
  (s.clearContext_keepsLog l).trans (State.voidAll_keepsLog _ l .cleared)

theorem State.setRole_keepsLog (role : Role) (settings : LaneSettings) :
    KeepsLog s (s.setRole l role settings).1 := by
  unfold State.setRole
  split
  · exact s.updLane_keepsLog l _ rfl
  · exact .refl s

/-- LOG_DROP removes the oldest records: the free slots grow, and the others still run (R197). -/
theorem State.dropRecords_keepsLog (k : Nat) : KeepsLog s (s.withLog (s.log.drop k)) := by
  refine ⟨fun ⟨reserve, bound⟩ => ⟨reserve, ?_⟩, fun h => h.drop k⟩
  show (s.log.records.drop k).length + s.log.reserve ≤ 1024
  rw [List.length_drop]
  omega

theorem State.takeDrop_keepsLog (a : DropArgs) : KeepsLog s (s.takeDrop a).1 := by
  unfold State.takeDrop
  split
  · split
    · exact .refl s
    · exact s.dropRecords_keepsLog a.k
  · exact .refl s

theorem State.handDay_keepsLog (day : Nat) : KeepsLog s (s.handDay day) := by
  unfold State.handDay
  split <;> exact .refl s

theorem State.takeSetClock_keepsLog (a : ClockArgs) : KeepsLog s (s.takeSetClock a).1 := by
  unfold State.takeSetClock
  split
  · refine KeepsLog.trans ?_ (State.appendUnreserved_keepsLog _ _)
    split
    · exact .refl s
    · refine KeepsLog.trans ?_ (State.handDay_keepsLog _ a.day)
      exact .refl s
  · exact .refl s

/-! ## The list flash port and the deny list unit -/

theorem State.carryOut_keepsLog : KeepsLog s s.carryOut := by
  refine s.carryOut_aside.keepsLog ?_
  unfold State.carryOut
  split
  · exact (s.grantRead_log _).1
  all_goals rfl

theorem State.failJob_keepsLog (op : Option FlashOp) : KeepsLog s (s.failJob op) := by
  refine (s.failJob_aside op).keepsLog ?_
  unfold State.failJob
  dsimp only
  split <;> rfl

theorem State.eraseEnded_keepsLog (good : Bool) : KeepsLog s (s.eraseEnded good) := by
  cases good with
  | false => exact s.failJob_keepsLog none
  | true =>
    refine s.eraseGood_aside.keepsLog ?_
    unfold State.eraseGood
    dsimp only
    split
    · split <;> rfl
    all_goals rfl

/-- A program that ends a commit asks for the LIST_COMMIT record (R164). -/
theorem State.programEnded_keepsLog (good : Bool) : KeepsLog s (s.programEnded good) := by
  cases good with
  | false => exact s.failJob_keepsLog none
  | true =>
    show KeepsLog s s.programGood
    unfold State.programGood
    dsimp only
    split
    case h_3 =>
      refine KeepsLog.trans ?_ (State.appendUnreserved_keepsLog _ _)
      exact .refl s
    case h_4 => split <;> exact .refl s
    all_goals exact .refl s

theorem State.actLimit_keepsLog : KeepsLog s s.actLimit := by
  unfold State.actLimit
  split
  · exact s.failJob_keepsLog _
  · exact .refl s

theorem State.suspendEnded_keepsLog (status : SuspendStatus) : KeepsLog s (s.suspendEnded status) := by
  cases status with
  | suspended => exact s.suspendHeld.actLimit_keepsLog
  | ended good =>
    show KeepsLog s (if s.port.eraseLimitReached s.now then s.actLimit else s.eraseEnded good)
    split
    · exact s.actLimit_keepsLog
    · exact s.eraseEnded_keepsLog good

theorem State.rebuildRead_keepsLog (res : PageResult) : KeepsLog s (s.rebuildRead res) := by
  unfold State.rebuildRead
  split
  · split <;> exact .refl s
  · exact .refl s

theorem State.lookupRead_keepsLog (res : PageResult) : KeepsLog s (s.lookupRead res) := by
  unfold State.lookupRead
  split
  · rename_i rest _
    split
    · exact State.handOutcome_keepsLog (s.withQueue rest) _ _
    · exact .refl s
  · exact .refl s

theorem State.readEnded_keepsLog (res : PageResult) (who : Requester) : KeepsLog s (s.readEnded res who) := by
  cases who with
  | lookup => exact (s.lookupRead_keepsLog res).trans (State.actLimit_keepsLog _)
  | withdrawn => exact s.actLimit_keepsLog
  | rebuild => exact s.rebuildRead_keepsLog res
  | startUp => exact .refl s

theorem State.takeListBegin_keepsLog : KeepsLog s s.takeListBegin.1 := by
  refine s.takeListBegin_aside.keepsLog ?_
  unfold State.takeListBegin
  split
  case h_4 | h_5 => split <;> rfl
  all_goals rfl

theorem State.addToList_keepsLog (es : List DenyEntry) : KeepsLog s (s.addToList es).1 := by
  refine (s.addToList_aside es).keepsLog ?_
  unfold State.addToList
  dsimp only
  split
  case h_3 => rfl
  all_goals split <;> rfl

theorem State.takeListCommit_keepsLog : KeepsLog s s.takeListCommit.1 := by
  refine s.takeListCommit_aside.keepsLog ?_
  unfold State.takeListCommit
  repeat' split
  all_goals rfl

/-! ## The restarts -/

theorem State.abandonLinks_keepsLog : KeepsLog s s.abandonLinks :=
  State.mapLanes_keepsLog s.dropReply Lane.abandonTake fun x => by
    unfold Lane.abandonTake
    split <;> rfl

/-- The evaluations that a restart abandons hold no slot (R129). -/
theorem State.stopWork_keepsLog : KeepsLog s s.stopWork :=
  s.abandonLinks_keepsLog.trans
    (State.mapLanes_keepsLog _ (fun x => { x with ctx := x.ctx.abandonWaiting }) fun x => by
      simp only [Lane.holdings, x.abandonWaiting_samePlaces.2])

/-- A cold start empties the log, the lanes and the berths together (R187, R220). -/
theorem State.beginCold_keepsLog (cause : ResetCause) : KeepsLog s (s.beginCold cause) := by
  have held : (s.beginCold cause).holdings = 0 := by
    refine (PerLane.sum_congr (g := id) (q := PerLane.all 0) fun l => ?_).trans rfl
    rw [show (s.beginCold cause).lanes = s.lanes.map Lane.cold from rfl, PerLane.get_map, PerLane.get_all]
    rfl
  exact ⟨fun _ => ⟨by rw [held]; rfl, Nat.zero_le _⟩, fun _ => trivial⟩

theorem State.beginRestart_keepsLog (begun : ResetCause) : KeepsLog s (s.beginRestart begun) := by
  unfold State.beginRestart
  split
  · exact State.stopWork_keepsLog (s.judgeWarm begun)
  · exact s.beginCold_keepsLog _

theorem State.release_keepsLog : KeepsLog s s.release := by
  unfold State.release
  split
  · split
    · exact s.beginRestart_keepsLog _
    · exact .refl s
  all_goals exact .refl s

theorem State.enterHold_keepsLog : KeepsLog s s.enterHold := by
  unfold State.enterHold
  split
  · exact .refl s
  all_goals exact s.abandonLinks_keepsLog

theorem State.takeAllInFlight_keepsLog : KeepsLog s (s.takeAllInFlight b) := s.updCall_keepsLog b _

theorem State.withTaps_keepsLog (t : List TapEntry) : KeepsLog s (s.withTaps t) := .refl s

theorem State.endRestartHoldings_keepsLog : KeepsLog s s.endRestartHoldings :=
  ((((s.endEveryHolding_keepsLog LaneId.list).trans
    (State.mapLanes_keepsLog _ (fun x => { x with ctx := x.ctx.discardRefuse }) fun x => by
      simp only [Lane.holdings, x.discardRefuse_samePlaces.2])).trans
    (State.takeAllInFlight_keepsLog _ .berthA)).trans (State.takeAllInFlight_keepsLog _ .berthB)).trans
    (State.withTaps_keepsLog _ _)

theorem State.startConditioners_keepsLog (now : Nat) :
    KeepsLog s (s.withLanes (s.lanes.map fun x => x.startConditioner now)) := s.mapLanes_keepsLog _ fun _ => rfl

theorem State.restartRest_keepsLog : KeepsLog s s.restartRest := by
  refine (s.startConditioners_keepsLog s.now).trans ?_
  unfold State.restartRest
  dsimp only
  split <;> split <;> exact .refl _

theorem State.handWaitingDay_keepsLog : KeepsLog s s.handWaitingDay := by
  unfold State.handWaitingDay
  split <;> exact .refl s

/-- The keep unit is beside what the laws read. -/
theorem State.withKeep_keepsLog (k : Keep) : KeepsLog s (s.withKeep k) := .refl s

theorem State.warmStep_keepsLog (next : WarmStage) : KeepsLog s (s.warmStep next) := by
  cases next with
  | suspendCalls =>
    exact ((s.updCall_keepsLog .berthA _).trans (State.updCall_keepsLog _ .berthB _)).trans
      (State.withKeep_keepsLog _ _)
  | endHoldings => exact s.endRestartHoldings_keepsLog.trans (State.withKeep_keepsLog _ _)
  | restartRest => exact s.restartRest_keepsLog.trans (State.withKeep_keepsLog _ _)
  | record =>
    exact (s.takeAsked_keepsLog.trans (State.appendUnreserved_keepsLog _ _)).trans (State.withKeep_keepsLog _ _)
  | finish => exact s.handWaitingDay_keepsLog.trans (.refl _)

/-- The settings load leaves what the lanes hold (R185). -/
theorem State.loadSettings_keepsLog (img : Option SettingsCopy) : KeepsLog s (s.loadSettings img) := by
  cases img with
  | none => exact .refl s
  | some v => exact .of_eq rfl rfl rfl

theorem State.afterContent_keepsLog (pages : List Page) : KeepsLog s (s.afterContent pages) := by
  unfold State.afterContent
  split
  · exact .refl s
  · exact s.loadSettings_keepsLog _

theorem State.finishCold_keepsLog (a c : Option Nat) (op : Option FlashOp) : KeepsLog s (s.finishCold a c op) :=
  s.startConditioners_keepsLog s.now

theorem State.coldRead_keepsLog (res : PageResult) (stage : ColdStage) : KeepsLog s (s.coldRead res stage) := by
  cases stage with
  | imageHeader =>
    show KeepsLog s (if imageHeaderValid res then s.afterContent [] else s.afterImage none)
    split
    · exact s.afterContent_keepsLog _
    · exact s.loadSettings_keepsLog none
  | imageContent pages =>
    cases res with
    | good p => exact s.afterContent_keepsLog _
    | erased | unreadable => exact s.loadSettings_keepsLog none
  | bankHeaderB a => exact s.finishCold_keepsLog _ _ none
  | flashReset _ | bankHeaderA => exact .refl s

end

/-! ## How an event reaches its block -/

/-- The outcome of a command is a state that keeps the laws of the log. -/
def OutcomeKeepsLog (s : State) (o : Host.Outcome State Fault Refusal) : Prop := ∀ t, o = .next t → KeepsLog s t

namespace KeepsLog

theorem next {s u : State} (h : KeepsLog s u) : OutcomeKeepsLog s (.next u) := fun t ht => by
  cases ht; exact h

theorem whenRunning {s : State} {f : State → State} (h : KeepsLog s (f s)) :
    OutcomeKeepsLog s (.next (s.whenRunning f)) := by
  refine next ?_
  unfold State.whenRunning
  split
  · exact h
  · exact .refl s

theorem onLane {s : State} {l : LaneId} {f : State → State} (h : KeepsLog s (f s)) :
    OutcomeKeepsLog s (.next (s.onLane l f)) := by
  refine whenRunning ?_
  split
  · exact .refl s
  · exact h

theorem onDock {α : Type} {s : State} {b : BerthId} {fields : Fields α} {f : α → State → State × DockReply}
    (h : ∀ (a : α) (t : State), KeepsLog t (f a t).1) : OutcomeKeepsLog s (.next (s.onDock b fields f)) := by
  have heard := s.updCall_keepsLog b fun c => c.heard s.now
  refine whenRunning ?_
  cases fields with
  | misfit => exact heard.trans (State.setBerth_keepsLog _ b _ rfl)
  | fit a => exact (heard.trans (h a _)).trans (State.setBerth_keepsLog _ b _ rfl)

theorem onTransfer {s : State} {f : State → State} (h : KeepsLog s.collect (f s.collect)) :
    OutcomeKeepsLog s (.next (s.onTransfer f)) := by
  refine next ?_
  unfold State.onTransfer
  split
  · exact h
  all_goals exact .refl s

theorem onStation {α : Type} {s : State} {cmd : Command} {fields : Fields α} {f : α → State → State × Answer}
    (h : ∀ (a : α) (t : State), KeepsLog t (f a t).1) : OutcomeKeepsLog s (.next (s.onStation cmd fields f)) := by
  refine onTransfer ?_
  cases fields with
  | misfit => exact .refl s
  | fit a => exact h a _

theorem onLaneCode {code : Nat} {s : State} {f : LaneId → State × Answer} (h : ∀ l, KeepsLog s (f l).1) :
    KeepsLog s (Machine.onLaneCode code s f).1 := by
  unfold Machine.onLaneCode
  split
  · exact h _
  · exact .refl s

theorem onBerthCode {code : Nat} {s : State} {f : BerthId → State × Answer} (h : ∀ b, KeepsLog s (f b).1) :
    KeepsLog s (Machine.onBerthCode code s f).1 := by
  unfold Machine.onBerthCode
  split
  · exact h _
  · exact .refl s

end KeepsLog

section
variable (s : State) (l : LaneId) (b : BerthId)

/-! ## The lanes and the berths -/

theorem execTap_keepsLog (fields : List Byte) : OutcomeKeepsLog s (execTap l fields s) := by
  refine .onLane ?_
  split
  · exact (s.countLane_keepsLog l _).trans (State.replyLane_keepsLog _ l _)
  · exact s.takeTap_keepsLog l _

theorem execTake_keepsLog : OutcomeKeepsLog s (execTake l s) := by
  refine .onLane ?_
  split
  case h_1 => exact s.updLane_keepsLog l _ rfl
  all_goals exact s.updLane_keepsLog l _ (Lane.answerTake_holdings _ s.now)

/-- An AWAIT_WRITE entry that moves on keeps its slot (R57, R59). -/
theorem Lane.writeEnded_holdings (x : Lane) (c : Confirmation) (now : Nat) :
    (x.writeEnded c now).holdings = x.holdings := by
  have same := (replaceFirst_keeps (f := fun e => e.toPassage c (now + x.settings.passageTimeout * 1000))
    Entry.awaitsWrite (fun _ => rfl) (fun _ => rfl) x.entries).length_eq
  simp only [Lane.holdings, Lane.writeEnded, ← same]

theorem execWroteOk_keepsLog : OutcomeKeepsLog s (execWroteOk l s) := by
  refine .onLane ?_
  split
  · exact s.replyLane_keepsLog l _
  · exact s.updLane_keepsLog l _ ((s.lane l).writeEnded_holdings .confirmed s.now)

theorem execWroteFailed_keepsLog : OutcomeKeepsLog s (execWroteFailed l s) := by
  refine .onLane ?_
  split
  · exact s.replyLane_keepsLog l _
  · rename_i e he
    exact (s.voidEntry_keepsLog l e .writeFailed (entries_found he).2.1).trans (State.replyLane_keepsLog _ l _)

theorem execSilenceDeadline_keepsLog : OutcomeKeepsLog s (execSilenceDeadline b s) := by
  refine .whenRunning ?_
  split
  · exact .refl s
  · rename_i c hc
    split
    · exact State.setCall_keepsLog hc _
    · exact .refl s

theorem execClosingDeadline_keepsLog : OutcomeKeepsLog s (execClosingDeadline b s) := by
  refine .whenRunning ?_
  split
  · exact .refl s
  · split
    · exact (s.releaseHoldings_keepsLog b .closed).trans (State.updCall_keepsLog _ b _)
    · exact .refl s

theorem execRawLevelChange_keepsLog (level : Level) : OutcomeKeepsLog s (execRawLevelChange l level s) := by
  refine .next ?_
  split
  · exact .refl s
  · split <;> exact s.updLane_keepsLog l _ rfl

theorem execDebounceDeadline_keepsLog : OutcomeKeepsLog s (execDebounceDeadline l s) := by
  have cleared : KeepsLog s (s.updLane l fun x => { x with cond := x.cond.acceptClear }) :=
    s.updLane_keepsLog l _ rfl
  refine .whenRunning ?_
  split
  · split
    · exact s.updLane_keepsLog l _ rfl
    · dsimp only
      split
      · exact cleared
      · exact cleared.trans (State.takePassage_keepsLog _ l)
  · exact .refl s

theorem execBlockedDeadline_keepsLog : OutcomeKeepsLog s (execBlockedDeadline l s) := by
  have blocked : KeepsLog s
      (s.updLane l fun x => { x with cond := { x.cond with blocked := true, blockedDeadline := none } }) :=
    s.updLane_keepsLog l _ rfl
  refine .whenRunning ?_
  split
  · exact blocked
  · exact .refl s

theorem execVerdictDeadline_keepsLog : OutcomeKeepsLog s (execVerdictDeadline l s) := by
  refine .whenRunning ?_
  split
  · rename_i e d h
    split
    · refine ((s.withdrawLookup_keepsLog l).trans (State.countLane_keepsLog _ l _)).trans
        (State.applyPolicy_keepsLog ?_ e)
      rw [State.countLane, State.updLane_lane, (s.withdrawLookup_aside l).lane, h]
      rfl
    · exact .refl s
  all_goals exact .refl s

theorem execTakeDeadline_keepsLog : OutcomeKeepsLog s (execTakeDeadline l s) := by
  refine .whenRunning ?_
  split
  · rename_i o h
    split
    · exact s.dropOffer_keepsLog l h
    · exact .refl s
  all_goals exact .refl s

theorem execWriteDeadline_keepsLog : OutcomeKeepsLog s (execWriteDeadline l s) := by
  refine .whenRunning ?_
  split
  · split
    · exact s.updLane_keepsLog l _ ((s.lane l).writeEnded_holdings .unconfirmed s.now)
    · exact .refl s
  · exact .refl s

theorem execPassageDeadline_keepsLog (which : WhichEntry) : OutcomeKeepsLog s (execPassageDeadline l which s) := by
  refine .whenRunning ?_
  split
  · rename_i e rest he
    split
    · exact s.voidEntry_keepsLog l e .noPassage (pickEntry_some he).2.1
    · exact .refl s
  · exact .refl s

theorem execCalendarSecond_keepsLog : OutcomeKeepsLog s (execCalendarSecond s) := by
  refine .next ?_
  split
  · rename_i t _
    split
    · dsimp only
      split
      · exact .refl s
      · exact State.handDay_keepsLog (s.withClock (s.clock.takeSecond t)) _
    · exact .refl s
  · exact .refl s

/-! ## The list flash port -/

theorem execPortGrant_keepsLog : OutcomeKeepsLog s (execPortGrant s) := by
  refine .whenRunning ?_
  split
  · exact .refl s
  · exact s.arbitrate.carryOut_keepsLog

theorem execSuspendIssue_keepsLog : OutcomeKeepsLog s (execSuspendIssue s) := by
  refine .whenRunning ?_
  repeat' split
  all_goals exact .refl s

theorem execSuspendEnd_keepsLog (status : SuspendStatus) : OutcomeKeepsLog s (execSuspendEnd status s) := by
  refine .whenRunning ?_
  split
  · exact s.suspendEnded_keepsLog status
  · exact .refl s

theorem execPageReadEnd_keepsLog (reads : FlashReads) : OutcomeKeepsLog s (execPageReadEnd reads s) := by
  refine .next ?_
  split
  · exact State.readEnded_keepsLog (s.endRead reads) _ _
  · exact State.coldRead_keepsLog (s.endRead reads) _ _
  · exact .refl s

theorem execPageProgramEnd_keepsLog (good : Bool) : OutcomeKeepsLog s (execPageProgramEnd good s) := by
  refine .whenRunning ?_
  split
  · split
    · exact s.failJob_keepsLog _
    · exact s.programEnded_keepsLog good
  · exact .refl s

theorem execSectorEraseEnd_keepsLog (good : Bool) : OutcomeKeepsLog s (execSectorEraseEnd good s) := by
  refine .whenRunning ?_
  split
  · split
    · exact s.failJob_keepsLog _
    · exact s.eraseEnded_keepsLog good
  · exact .refl s

theorem execFlashResetEnd_keepsLog : OutcomeKeepsLog s (execFlashResetEnd s) := by
  refine .next ?_
  split
  case h_3 =>
    split
    · exact State.finishCold_keepsLog s.countUnread none none none
    · exact .refl s
  all_goals exact .refl s

theorem execOperationTimeLimit_keepsLog : OutcomeKeepsLog s (execOperationTimeLimit s) := by
  refine .whenRunning ?_
  split
  · split
    · exact s.failJob_keepsLog _
    · exact .refl s
  case h_2 | h_3 => exact s.actLimit_keepsLog
  all_goals exact .refl s

theorem execFlashReadyTimeout_keepsLog : OutcomeKeepsLog s (execFlashReadyTimeout s) := by
  refine .next ?_
  split
  · split
    · exact State.finishCold_keepsLog s.countUnread none none _
    · exact .refl s
  · exact .refl s

/-! ## The pins, the supplies and RESTART -/

theorem execResetInputAssert_keepsLog : OutcomeKeepsLog s (execResetInputAssert s) := by
  refine .next ?_
  split
  · exact .refl s
  · exact s.enterHold_keepsLog

theorem execResetInputRelease_keepsLog : OutcomeKeepsLog s (execResetInputRelease s) := by
  refine .next ?_
  split
  · exact State.release_keepsLog (s.withKeep { s.keep with resetInput := false })
  · exact .refl s

theorem execCoreSupplyRise_keepsLog (low : Bool) : OutcomeKeepsLog s (execCoreSupplyRise low s) := by
  refine .next ?_
  split
  · exact .refl s
  · exact State.release_keepsLog
      (s.withKeep { s.keep with coreUp := true, run := if low then .held .powerOn else s.keep.run })

theorem execCoreSupplyFall_keepsLog : OutcomeKeepsLog s (execCoreSupplyFall s) := by
  refine .next ?_
  split
  · exact s.enterHold_keepsLog
  · exact .refl s

theorem execRestart_keepsLog (fields : Fields Unit) : OutcomeKeepsLog s (execRestart fields s) := by
  refine .onTransfer ?_
  cases fields with
  | misfit => exact .refl s
  | fit => exact State.beginRestart_keepsLog _ _

/-! ## The commands of the station port -/

theorem execReadStats_keepsLog (fields : Fields Bool) : OutcomeKeepsLog s (execReadStats fields s) := by
  refine .onStation fun clear t => ?_
  have cleared : KeepsLog t (t.withLanes (t.lanes.map fun x => { x with stats := LaneStats.zero })) :=
    t.mapLanes_keepsLog _ fun _ => rfl
  dsimp only
  split
  · exact cleared
  · exact .refl t

theorem execSetLane_keepsLog (fields : Fields LaneArgs) : OutcomeKeepsLog s (execSetLane fields s) := by
  refine .onStation fun a t => .onLaneCode fun l => ?_
  split
  · split
    · exact t.setRole_keepsLog l _ _
    · exact .refl t
  · exact .refl t

theorem execSetLanding_keepsLog (fields : Fields LandingArgs) : OutcomeKeepsLog s (execSetLanding fields s) := by
  refine .onStation fun a t => ?_
  split <;> exact .refl t

theorem execWriteFare_keepsLog (fields : Fields WriteFareArgs) : OutcomeKeepsLog s (execWriteFare fields s) := by
  refine .onStation fun a t => ?_
  repeat' split
  all_goals exact .refl t

theorem execStagePlan_keepsLog (fields : Fields PlanArgs) : OutcomeKeepsLog s (execStagePlan fields s) := by
  refine .onStation fun a t => .onBerthCode fun b => ?_
  split
  · exact t.setBerth_keepsLog b _ rfl
  · exact .refl t

theorem execListAdd_keepsLog (fields : Fields (List AddEntry)) : OutcomeKeepsLog s (execListAdd fields s) := by
  refine .onStation fun a t => ?_
  split
  · split
    · exact t.addToList_keepsLog _
    · exact .refl t
  · exact .refl t

theorem execStoreSettings_keepsLog (fields : Fields Unit) : OutcomeKeepsLog s (execStoreSettings fields s) := by
  refine .onStation fun _ t => ?_
  split <;> exact .refl t

end

/-! ## The step -/

/-- Every command keeps the laws of the log. -/
theorem exec_keepsLog (i : Instr) (s : State) : OutcomeKeepsLog s (exec i s) := by
  cases i with
  | tap l fields => exact execTap_keepsLog s l fields
  | take l => exact execTake_keepsLog s l
  | wroteOk l => exact execWroteOk_keepsLog s l
  | wroteFailed l => exact execWroteFailed_keepsLog s l
  | laneStatus l => exact .onLane (s.replyLane_keepsLog l _)
  | laneBadFrame l => exact .onLane ((s.countLane_keepsLog l _).trans (State.replyLane_keepsLog _ l _))
  | laneUnknownMessage l => exact .onLane (s.replyLane_keepsLog l _)
  | arrive b fields => exact .onDock fun a t => t.takeArrive_keepsLog b a
  | rampOpen b fields => exact .onDock fun _ t => t.takeRampOpen_keepsLog b
  | countQuery b fields => exact .onDock fun _ t => .refl t
  | departReq b fields => exact .onDock fun _ t => t.takeDepartReq_keepsLog b
  | handoverTaken b fields => exact .onDock fun _ t => t.takeHandover_keepsLog b
  | dockBadFrame b => exact .whenRunning (s.setBerth_keepsLog b _ rfl)
  | dockUnknownMessage b => exact .onDock fun _ t => .refl t
  | silenceDeadline b => exact execSilenceDeadline_keepsLog s b
  | closingDeadline b => exact execClosingDeadline_keepsLog s b
  | berthCommit b l => exact .whenRunning (s.takeFromLane_keepsLog l b _)
  | berthRelease b l => exact .whenRunning (s.takeFromLane_keepsLog l b _)
  | rawLevelChange l level => exact execRawLevelChange_keepsLog s l level
  | debounceDeadline l => exact execDebounceDeadline_keepsLog s l
  | blockedDeadline l => exact execBlockedDeadline_keepsLog s l
  | verdictDeadline l => exact execVerdictDeadline_keepsLog s l
  | takeDeadline l => exact execTakeDeadline_keepsLog s l
  | writeDeadline l => exact execWriteDeadline_keepsLog s l
  | passageDeadline l which => exact execPassageDeadline_keepsLog s l which
  | calendarSecond => exact execCalendarSecond_keepsLog s
  | readStatus fields => exact .onStation fun _ t => .refl t
  | readStats fields => exact execReadStats_keepsLog s fields
  | setClock fields => exact .onStation fun a t => t.takeSetClock_keepsLog a
  | setLane fields => exact execSetLane_keepsLog s fields
  | setLanding fields => exact execSetLanding_keepsLog s fields
  | writeFare fields => exact execWriteFare_keepsLog s fields
  | readFare fields => exact .onStation fun _ t => .refl t
  | stagePlan fields => exact execStagePlan_keepsLog s fields
  | cancelPlan fields => exact .onStation fun _ t => .onBerthCode fun b => t.setBerth_keepsLog b _ rfl
  | setCap fields => exact .onStation fun _ t => .onBerthCode fun b => t.takeSetCap_keepsLog b _
  | closeBerth fields => exact .onStation fun _ t => .onBerthCode fun b => t.takeClose_keepsLog b
  | reopenBerth fields => exact .onStation fun _ t => .onBerthCode fun b => t.takeReopen_keepsLog b
  | forceVacate fields => exact .onStation fun _ t => .onBerthCode fun b => t.takeVacate_keepsLog b
  | laneClear fields => exact .onStation fun _ t => .onLaneCode fun l => t.takeClear_keepsLog l
  | listBegin fields => exact .onStation fun _ t => t.takeListBegin_keepsLog
  | listAdd fields => exact execListAdd_keepsLog s fields
  | listCommit fields => exact .onStation fun _ t => t.takeListCommit_keepsLog
  | logPeek fields => exact .onStation fun _ t => .refl t
  | logDrop fields => exact .onStation fun a t => t.takeDrop_keepsLog a
  | storeSettings fields => exact execStoreSettings_keepsLog s fields
  | restart fields => exact execRestart_keepsLog s fields
  | rttQuery fields => exact .onStation fun _ t => .refl t
  | emptyFrame => exact .onTransfer (.refl s)
  | stationBadFrame => exact .onTransfer (.refl s)
  | stationUnknownCommand kind => exact .onTransfer (.refl s)
  | portGrant => exact execPortGrant_keepsLog s
  | suspendIssue => exact execSuspendIssue_keepsLog s
  | suspendEnd status => exact execSuspendEnd_keepsLog s status
  | pageReadEnd reads => exact execPageReadEnd_keepsLog s reads
  | pageProgramEnd good => exact execPageProgramEnd_keepsLog s good
  | sectorEraseEnd good => exact execSectorEraseEnd_keepsLog s good
  | flashResetEnd => exact execFlashResetEnd_keepsLog s
  | operationTimeLimit => exact execOperationTimeLimit_keepsLog s
  | resetInputAssert => exact execResetInputAssert_keepsLog s
  | resetInputRelease => exact execResetInputRelease_keepsLog s
  | coreSupplyRise low => exact execCoreSupplyRise_keepsLog s low
  | coreSupplyFall => exact execCoreSupplyFall_keepsLog s
  | retentionSupplyDip => exact KeepsLog.next (.refl s)
  | flashReadyTimeout => exact execFlashReadyTimeout_keepsLog s

/-- One millisecond keeps them (log 2). -/
theorem State.tick_keepsLog (s : State) : KeepsLog s s.tick := by
  unfold State.tick
  split
  · exact s.passTime.takeAsked_keepsLog
  case h_3 => exact s.passTime.warmStep_keepsLog _
  all_goals exact .refl s

/-- Every step keeps them. -/
theorem step_keepsLog {s t : State} (h : step s = .next t) : KeepsLog s t := by
  unfold step at h
  split at h
  · cases h
    exact s.tick_keepsLog
  · rename_i c rest _
    exact exec_keepsLog c (s.withPending rest) t h

/-- Settles O6: every step keeps the law of the reserve and that of the sequence numbers. -/
theorem everyStepKeepsTheTripLog : Obligations.EveryStepKeepsTheTripLog := by
  unfold Obligations.EveryStepKeepsTheTripLog
  exact fun s t h => step_keepsLog h

end Sys2Proof.Machine
end

section
/-!
PROOF. The trip log's requests (R188, R191 to R194) and LOG_DROP (R197), each by what it finds.
-/
namespace Sys2Proof.Machine

/-! ## Requests -/

/-- The test of R191 and R194: more free slots than are reserved. -/
theorem TripLog.room_iff (g : TripLog) : g.room = true ↔ g.reserve < 1024 - g.records.length :=
  decide_eq_true_iff

theorem TripLog.reserveSlot_eq (g : TripLog) :
    g.reserveSlot = if g.reserve < 1024 - g.records.length then some { g with reserve := g.reserve + 1 } else none := by
  split
  · rename_i h; exact TripLog.reserveSlot_room h
  · rename_i h; exact TripLog.reserveSlot_full h

/-- An unreserved append with room is written (R194). -/
theorem State.appendUnreserved_room {s : State} (h : s.log.reserve < 1024 - s.log.records.length) (c : Content) :
    s.appendUnreserved c = s.withLog (s.log.append c) := by
  simp only [State.appendUnreserved, TripLog.appendUnreserved, if_pos (s.log.room_iff.mpr h)]

/-- Without room it is refused, and counted (R194). -/
theorem State.appendUnreserved_full {s : State} (h : ¬ s.log.reserve < 1024 - s.log.records.length) (c : Content) :
    s.appendUnreserved c = s.count fun x => { x with unlogged := bump x.unlogged } := by
  simp only [State.appendUnreserved, TripLog.appendUnreserved, if_neg (s.log.room_iff.not.mpr h)]

/-! ## LOG_DROP -/

/-- Step 1 of R197: `k` within its range and the record count. -/
theorem dropArgs_iff (s : State) (a : DropArgs) :
    (within 1 1024 a.k && decide (a.k ≤ s.log.records.length)) = true
      ↔ 1 ≤ a.k ∧ a.k ≤ 1024 ∧ a.k ≤ s.log.records.length := by
  simp [within, and_assoc]

/-- Step 2 of R197: an expected sequence that is not the oldest record's. -/
theorem TripLog.wrongSequence_iff (g : TripLog) (expected : Option (BitVec 16)) :
    g.wrongSequence expected = true ↔ ∃ n, expected = some n ∧ g.oldestSeq ≠ some n := by
  cases expected <;> simp [TripLog.wrongSequence]

section
variable {s : State} (hr : s.keep.run = .running) {a : DropArgs}
include hr

theorem exec_logDrop_badArgument (h : ¬ (1 ≤ a.k ∧ a.k ≤ 1024 ∧ a.k ≤ s.log.records.length)) :
    exec (.logDrop (.fit a)) s = .next (s.answered (.refused .logDrop .badArgument .nothing)) :=
  congrArg Host.Outcome.next (State.onStation_answered hr (.no .badArgument)
    (if_neg ((dropArgs_iff s.collect a).not.mpr h)))

theorem exec_logDrop_wrongSequence (h : 1 ≤ a.k ∧ a.k ≤ 1024 ∧ a.k ≤ s.log.records.length)
    (hw : s.log.wrongSequence a.expected = true) :
    exec (.logDrop (.fit a)) s = .next (s.answered (.refused .logDrop .wrongSequence .nothing)) :=
  congrArg Host.Outcome.next (State.onStation_answered hr (.no .wrongSequence)
    ((if_pos ((dropArgs_iff s.collect a).mpr h)).trans (if_pos hw)))

/-- The oldest `k` records removed, and the answer tells what is left (R197). -/
theorem exec_logDrop (h : 1 ≤ a.k ∧ a.k ≤ 1024 ∧ a.k ≤ s.log.records.length)
    (hw : ¬ s.log.wrongSequence a.expected = true) :
    exec (.logDrop (.fit a)) s = .next ((s.withLog (s.log.drop a.k)).answered
      (.ok .logDrop (.dropped (s.log.drop a.k).records.length (s.log.drop a.k).oldestSeq))) :=
  congrArg Host.Outcome.next (State.onStation_changed hr
    (.ok (.dropped (s.log.drop a.k).records.length (s.log.drop a.k).oldestSeq))
    (u := s.collect.withLog (s.log.drop a.k))
    ((if_pos ((dropArgs_iff s.collect a).mpr h)).trans (if_neg hw)) fun _ => rfl)

end

/-- Settles O14, request by request and then LOG_DROP in the order of R197. -/
theorem tripLogTakesItsRequests : Obligations.TripLogTakesItsRequests := by
  unfold Obligations.TripLogTakesItsRequests
  refine ⟨fun s c => ⟨s.log.reserveSlot_eq, rfl, rfl, fun h => State.appendUnreserved_room h c,
    fun h => State.appendUnreserved_full h c⟩,
    fun s a hr => ⟨exec_logDrop_badArgument hr, fun h1 h2 h3 => ⟨?wrong, ?dropped⟩⟩⟩
  case wrong =>
    exact fun h => exec_logDrop_wrongSequence hr ⟨h1, h2, h3⟩ ((s.log.wrongSequence_iff _).mpr h)
  case dropped =>
    intro expected
    have right : ¬ s.log.wrongSequence a.expected = true := by
      rw [TripLog.wrongSequence_iff]
      rintro ⟨n, he, hn⟩
      rcases expected with none | oldest
      · rw [none] at he; cases he
      · exact hn (oldest.symm.trans he)
    rw [exec_logDrop hr ⟨h1, h2, h3⟩ right]
    simp only [TripLog.drop, TripLog.oldestSeq, List.length_drop]

end Sys2Proof.Machine
end

section
/-!
PROOF. Every law of Safety.lean holds after reset: the lanes and berths hold nothing, the log and the tables are empty,
and nothing is in progress at the flash.
-/
namespace Sys2Proof.Machine

theorem State.reset_call (b : BerthId) : State.reset.call b = none := by
  rw [State.call, State.reset_berth]
  rfl

theorem State.reset_placesHeld (b : BerthId) : State.reset.placesHeld b = 0 := by
  refine (PerLane.sum_congr (g := id) (q := PerLane.all 0) fun l => ?_).trans rfl
  rw [show State.reset.lanes.get l = _ from State.reset_lane l, PerLane.get_all]
  rfl

theorem reset_logLaw : LogLaw State.reset := ⟨rfl, Nat.zero_le _⟩

theorem reset_laneListLaw : LaneListLaw State.reset := by
  intro l
  rw [State.reset_lane]
  exact ⟨Nat.zero_le _, nofun, nofun⟩

theorem reset_capacityLaw : CapacityLaw State.reset := by
  intro b
  rw [State.reset_berth]
  exact ⟨nofun, nofun⟩

theorem reset_placeLaw : PlaceLaw State.reset := by
  refine (placeLaw_iff _).mpr ⟨fun b c h => ?_, fun b _ => State.reset_placesHeld b, fun l e he => ?_, nofun⟩
  · rw [State.reset_call] at h; cases h
  · rw [State.reset_lane] at he; cases he

theorem reset_placeBoundLaw : PlaceBoundLaw State.reset := by
  refine ⟨reset_laneListLaw, fun b c l h => ?_⟩
  rw [State.reset_call] at h
  cases h

/-- The settings of no valid image lie in their ranges (R40, R207). -/
theorem reset_settingsLaw : SettingsLaw State.reset := by
  refine ⟨fun l => ?_, rfl⟩
  rw [State.reset_lane]
  rfl

theorem reset_activeBankLaw : ActiveBankLaw State.reset := by
  refine ⟨fun o h => ?op, fun e h => ?held, fun o h => ?program, fun j h => ?job, fun b h => ?buffer,
    Nat.zero_le 1023, fun stage h => ?cold⟩
  all_goals cases h

/-- Settles O5, law by law. -/
theorem lawsHoldAfterReset : Obligations.LawsHoldAfterReset := by
  unfold Obligations.LawsHoldAfterReset
  exact ⟨reset_logLaw, reset_laneListLaw, ⟨Nat.zero_le _, List.nodup_nil⟩, reset_capacityLaw, reset_placeLaw,
    reset_placeBoundLaw, ⟨List.nodup_nil, nofun⟩, reset_settingsLaw, ⟨Nat.zero_le _, rfl, rfl⟩, trivial,
    reset_activeBankLaw⟩

end Sys2Proof.Machine
end

section
/-!
PROOF. The transfers that reach no owner (R202, R203), and the station's readings (R106, R142, R196, R210, R213).
-/
namespace Sys2Proof.Machine

/-! ## Transfers that reach no owner -/

/-- Settles O48: each of these transfers collects the pending reply and forms its own, if any. -/
theorem stationFramesThatReachNoOwner : Obligations.StationFramesThatReachNoOwner := by
  unfold Obligations.StationFramesThatReachNoOwner
  intro s hr
  have transfer (f : State → State) :
      Host.Outcome.next (φ := Fault) (ρ := Refusal) (s.onTransfer f) = .next (f s.collect) :=
    congrArg Host.Outcome.next (State.onTransfer_of hr f)
  refine ⟨transfer _, transfer _, fun _ => transfer _, fun c k h => ?misshapen⟩
  case misshapen =>
    simp only [List.mem_cons, List.not_mem_nil, or_false, Prod.mk.injEq] at h
    obtain ⟨rfl, rfl⟩ | ⟨rfl, rfl⟩ | ⟨rfl, rfl⟩ | ⟨rfl, rfl⟩ | ⟨rfl, rfl⟩ | ⟨rfl, rfl⟩ | ⟨rfl, rfl⟩ | ⟨rfl, rfl⟩
      | ⟨rfl, rfl⟩ | ⟨rfl, rfl⟩ | ⟨rfl, rfl⟩ | ⟨rfl, rfl⟩ | ⟨rfl, rfl⟩ | ⟨rfl, rfl⟩ | ⟨rfl, rfl⟩ | ⟨rfl, rfl⟩
      | ⟨rfl, rfl⟩ | ⟨rfl, rfl⟩ | ⟨rfl, rfl⟩ | ⟨rfl, rfl⟩ | ⟨rfl, rfl⟩ | ⟨rfl, rfl⟩ := h
    all_goals exact transfer _

/-! ## READ_STATUS and READ_STATS -/

/-- The writer totals are reported in OPEN and COMMITTING (R150). -/
theorem Standby.showsTotals_iff (x : Standby) : x.showsTotals = true ↔ x = .opened ∨ x = .committing := by
  cases x <;> simp [Standby.showsTotals]

theorem listReport_eq (d : DenyUnit) : listReport d =
    { bank := if d.noList then none else some d.selector, generation := d.generation, standby := d.standby
      rebuilding := d.rebuild.isSome
      totals := if d.standby = .opened ∨ d.standby = .committing then some (d.entriesTaken, d.overflowUsed)
        else none } := by
  simp only [listReport, Standby.showsTotals_iff]

theorem State.statusReport_berth (s : State) (b : BerthId) : s.statusReport.berths.get b = berthReport (s.berth b) := by
  cases b <;> rfl

theorem State.statusReport_lane (s : State) (l : LaneId) : s.statusReport.lanes.get l = laneReport (s.lane l) :=
  PerLane.get_map laneReport s.lanes l

theorem State.clearStats_lane (s : State) (l : LaneId) :
    s.clearStats.lane l = { s.lane l with stats := LaneStats.zero } :=
  PerLane.get_map _ s.lanes l

section
variable {s : State} (hr : s.keep.run = .running)
include hr

/-- The report is taken before the latched causes are cleared (R210). -/
theorem exec_readStatus : exec (.readStatus (.fit ())) s
    = .next ((s.latch fun _ => Causes.none).answered (.ok .readStatus (.status s.statusReport))) :=
  congrArg Host.Outcome.next (State.onStation_changed hr (.ok (.status s.statusReport)) rfl fun _ => rfl)

/-- The statistics are read before they are cleared (R213). -/
theorem exec_readStats (clear : Bool) : exec (.readStats (.fit clear)) s
    = .next ((if clear then s.clearStats else s).answered
        (.ok .readStats (.stats (s.lanes.map (·.stats)) s.station.stats))) :=
  congrArg Host.Outcome.next (State.onStation_changed hr (.ok (.stats (s.lanes.map (·.stats)) s.station.stats)) rfl
    fun _ => by cases clear <;> rfl)

end

/-! ## READ_FARE and LOG_PEEK -/

theorem farePlaceValid_iff (page index : Nat) : farePlaceValid page index = true ↔ page ≤ 15 ∧ index ≤ 31 := by
  simp [farePlaceValid, within]

section
variable {s : State} (hr : s.keep.run = .running)
include hr

theorem exec_readFare (a : ReadFareArgs) : exec (.readFare (.fit a)) s
    = .next (s.answered ((if farePlaceValid a.page a.index then
        Answer.ok (.fare (fareBytes (fareAt s.fare a.page a.index))) else .no .badArgument).reply .readFare)) :=
  congrArg Host.Outcome.next (State.onStation_answered hr _ rfl)

theorem exec_logPeek (k : Nat) : exec (.logPeek (.fit k)) s
    = .next (s.answered ((if within 1 8 k then
        Answer.ok (.records s.log.records.length s.log.reserve ((s.log.records.take k).map recordBytes))
        else .no .badArgument).reply .logPeek)) :=
  congrArg Host.Outcome.next (State.onStation_answered hr _ rfl)

theorem exec_rttQuery (id : TokenId) : exec (.rttQuery (.fit id)) s
    = .next (s.answered ((if id = 0 then Answer.no .badArgument else .ok (tapReport s.taps id)).reply .rttQuery)) :=
  congrArg Host.Outcome.next (State.onStation_answered hr _ rfl)

end

/-! ## RTT_QUERY -/

section
variable {older younger : List TapEntry} {e : TapEntry} {id : TokenId}

theorem tapFind_eq_none {t : List TapEntry} (h : ∀ x ∈ t, x.tokenId ≠ id) : tapFind t id = none :=
  List.find?_eq_none.mpr fun x hx => by simp [h x hx]

/-- The oldest entry of the token is the one found (R131). -/
theorem tapFind_append (he : e.tokenId = id) (ho : ∀ x ∈ older, x.tokenId ≠ id) :
    tapFind (older ++ e :: younger) id = some e := by
  have before : older.find? (fun x => decide (x.tokenId = id)) = none := tapFind_eq_none ho
  simp [tapFind, List.find?_append, before, he]

/-- The age rank counts the entries younger than the one found (R142). -/
theorem ageRank_append (he : e.tokenId = id) (ho : ∀ x ∈ older, x.tokenId ≠ id) :
    ageRank (older ++ e :: younger) id = younger.length := by
  have place : (older ++ e :: younger).findIdx (fun x => decide (x.tokenId = id)) = older.length := by
    have before : older.findIdx (fun x => decide (x.tokenId = id)) = older.length :=
      List.findIdx_eq_length_of_false fun x hx => by simp [ho x hx]
    simp [List.findIdx_append, List.findIdx_cons, before, he]
  simp only [ageRank, place, List.length_append, List.length_cons]
  omega

end

/-- Settles O49, command by command. -/
theorem stationReadingsReportTheState : Obligations.StationReadingsReportTheState := by
  unfold Obligations.StationReadingsReportTheState
  intro s hr
  refine ⟨⟨s.statusReport, exec_readStatus hr, rfl, rfl, rfl, ?cause, ?berths, ?lanes, rfl, rfl, rfl, rfl,
    listReport_eq s.deny, rfl, rfl⟩, fun clear => ?stats, fun a => ⟨fun hp hi => ?fare, fun h => ?noFare⟩,
    fun k => ⟨fun h1 h8 => ?peek, fun h => ?noPeek⟩, exec_rttQuery hr 0, fun id hid => ?query⟩
  case cause =>
    show resetCauseCode s.keep.resetCause = _
    cases s.keep.resetCause <;> rfl
  case berths => exact s.statusReport_berth
  case lanes =>
    intro l
    rw [s.statusReport_lane, laneReport]
    cases (s.lane l).ctx <;> rfl
  case stats =>
    refine ⟨_, _, exec_readStats hr clear, PerLane.get_map _ s.lanes, fun h => ?_, fun h => ?_⟩
    · rw [h]; rfl
    · rw [h]
      exact ⟨rfl, s.clearStats_lane, rfl, rfl, rfl, rfl, rfl, rfl, rfl, rfl⟩
  case fare =>
    rw [exec_readFare hr, if_pos ((farePlaceValid_iff _ _).mpr ⟨hp, hi⟩)]
    rfl
  case noFare =>
    rw [exec_readFare hr, if_neg ((farePlaceValid_iff _ _).not.mpr h)]
    rfl
  case peek =>
    rw [exec_logPeek hr, if_pos ((within_iff 1 8 k).mpr ⟨h1, h8⟩)]
    rfl
  case noPeek =>
    rw [exec_logPeek hr, if_neg ((within_iff 1 8 k).not.mpr h)]
    rfl
  case query =>
    rw [exec_rttQuery hr, if_neg hid]
    refine ⟨_, rfl, fun h => ?_, fun older e younger ht he ho => ?_⟩
    · rw [tapFind_eq_none h]; rfl
    · rw [ht, tapFind_append he ho, ageRank_append he ho]; rfl

end Sys2Proof.Machine
end

section
/-!
PROOF. What a restart ends and how its records come into the log (R68, R144, R194, log 22): every lane's holdings ended,
the berths' calls changed together, and appends one after another.
-/
namespace Sys2Proof.Machine

/-- Two states with the same blocks are the same. -/
theorem State.eq_of_blocks {s t : State} (clock : t.clock = s.clock) (keep : t.keep = s.keep)
    (lanes : t.lanes = s.lanes) (berths : t.berths = s.berths) (fare : t.fare = s.fare) (taps : t.taps = s.taps) (deny : t.deny = s.deny)
    (port : t.port = s.port) (log : t.log = s.log) (asked : t.asked = s.asked) (station : t.station = s.station)
    (pending : t.pending = s.pending) : t = s := by
  cases s; cases t; simp_all only

theorem PerLane.ext_get {α : Type} {p q : PerLane α} (h : ∀ l, p.get l = q.get l) : p = q := by
  have h0 := h .l0; have h1 := h .l1; have h2 := h .l2; have h3 := h .l3
  have h4 := h .l4; have h5 := h .l5; have h6 := h .l6; have h7 := h .l7
  cases p; cases q; simp_all only [PerLane.get]

/-! ## The calls of both berths changed -/

/-- A berth with its open call changed. -/
def Berth.changed (f : Call → Call) (x : Berth) : Berth := { x with call := x.call.map f }

/-- Whether a change of the open calls latches BERTH_EVENT (R37). -/
def State.callsEvent (s : State) (f : Call → Call) : Bool :=
  berthEvent (s.call .berthA) ((s.call .berthA).map f) || berthEvent (s.call .berthB) ((s.call .berthB).map f)

/-- The open calls of both berths changed. -/
def State.changeCalls (s : State) (f : Call → Call) : State :=
  (s.withBerths { a := s.berths.a.changed f, b := s.berths.b.changed f }).latch fun x =>
    { x with berthEvent := x.berthEvent || s.callsEvent f }

theorem State.updCall_eq (s : State) (b : BerthId) (f : Call → Call) :
    s.updCall b f = (s.setBerth b ((s.berth b).changed f)).latch fun x =>
      { x with berthEvent := x.berthEvent || berthEvent (s.call b) ((s.call b).map f) } := by
  cases hc : s.call b with
  | none =>
    have hc' : (s.berth b).call = none := hc
    have same : (s.berth b).changed f = s.berth b := by
      simp only [Berth.changed, hc', Option.map_none]
      rw [← hc']
    rw [State.updCall_none hc, same, State.setBerth_self, State.latch]
    simp [berthEvent]
    rfl
  | some c =>
    have hc' : (s.berth b).call = some c := hc
    rw [State.updCall_some hc, State.setCall_eq, hc, Berth.changed, hc']
    rfl

theorem State.updCall_both (s : State) (f : Call → Call) :
    (s.updCall .berthA f).updCall .berthB f = s.changeCalls f := by
  rw [State.updCall_eq, State.updCall_eq]
  simp only [State.changeCalls, State.callsEvent, ← Bool.or_assoc]
  rfl

theorem State.changeCalls_berth (s : State) (f : Call → Call) (b : BerthId) :
    (s.changeCalls f).berth b = (s.berth b).changed f := by
  cases b <;> rfl

/-- The change of either berth's call may latch it. -/
theorem State.callsEvent_of {s : State} {f : Call → Call} {b : BerthId} {c : Call} (hc : s.call b = some c)
    (h : berthEvent (some c) (some (f c)) = true) : s.callsEvent f = true := by
  cases b <;> simp [State.callsEvent, hc, h]

/-! ## Every lane's holdings ended -/

section
variable {s : State}

theorem State.sendHolding_asked (s : State) (b : Option BerthId) (l : LaneId) (m : Holding) :
    (s.sendHolding b l m).asked = s.asked := by
  cases b with
  | none => rfl
  | some b => rw [State.sendHolding_berth]; rfl

theorem State.dropIfOffer_asked (s : State) (l : LaneId) : (s.dropIfOffer l).asked = s.asked := by
  unfold State.dropIfOffer
  split
  · exact State.sendHolding_asked _ _ l _
  all_goals rfl

theorem State.voidList_asked (l : LaneId) (r : VoidReason) (es : List Entry) (s : State) :
    (s.voidList l r es).asked = s.asked := by
  induction es generalizing s with
  | nil => rfl
  | cons e rest ih => exact (ih _).trans (State.sendHolding_asked _ _ l _)

theorem State.endHoldings_asked (s : State) (l : LaneId) (r : VoidReason) : (s.endHoldings l r).asked = s.asked :=
  (State.voidList_asked l r _ _).trans (s.dropIfOffer_asked l)

theorem State.endEveryHolding_asked (ls : List LaneId) (s : State) : (s.endEveryHolding ls).asked = s.asked := by
  induction ls generalizing s with
  | nil => rfl
  | cons l rest ih => exact (ih _).trans (s.endHoldings_asked l .restart)

theorem State.endEveryHolding_quiet (ls : List LaneId) (s : State) : Quiet s (s.endEveryHolding ls) := by
  induction ls generalizing s with
  | nil => exact .refl s
  | cons l rest ih => exact (s.endHoldings_quiet l .restart).trans (ih _)

theorem State.endEveryHolding_lane {ls : List LaneId} (hn : ls.Nodup) (s : State) (k : LaneId) :
    (s.endEveryHolding ls).lane k = if k ∈ ls then (s.lane k).dropped.voided else s.lane k := by
  induction ls generalizing s with
  | nil => rfl
  | cons l rest ih =>
    obtain ⟨hl, hrest⟩ := List.nodup_cons.mp hn
    show ((s.endHoldings l .restart).endEveryHolding rest).lane k = _
    rw [ih hrest]
    by_cases hk : k = l
    · subst hk
      rw [if_neg hl, if_pos (List.mem_cons_self ..), State.endHoldings_lane]
    · rw [State.endHoldings_other s _ hk]
      simp only [List.mem_cons, hk, false_or]

/-- A lane that holds what another does. -/
structure Lane.HoldsAs (y x : Lane) : Prop where
  entries : y.entries = x.entries
  offers : y.ctx.offers = x.ctx.offers
  tokens : y.heldTokens = x.heldTokens

theorem Lane.HoldsAs.of_eq {x y : Lane} (h : y = x) : y.HoldsAs x := h ▸ ⟨rfl, rfl, rfl⟩

/-- Lanes that hold what they held have the same to give back. -/
theorem State.holdings_congr {t : State} {ls : List LaneId} (hc : t.clock.calendar = s.clock.calendar)
    (h : ∀ k ∈ ls, (t.lane k).HoldsAs (s.lane k)) (r : VoidReason) :
    t.voidRecords ls r = s.voidRecords ls r ∧ t.offerSlots ls = s.offerSlots ls
      ∧ (ls.flatMap fun l => (t.lane l).heldTokens) = ls.flatMap fun l => (s.lane l).heldTokens := by
  refine ⟨?_, congrArg List.sum (List.map_congr_left fun k hk => (h k hk).offers),
    List.flatMap_congr fun k hk => (h k hk).tokens⟩
  simp only [State.voidRecords, hc]
  exact List.flatMap_congr fun k hk => by rw [(h k hk).entries]

/-- The records, slots and uses of lanes ended in turn (R68). -/
theorem State.endEveryHolding_gaveBack {ls : List LaneId} (hn : ls.Nodup) (s : State) :
    GaveBack (s.voidRecords ls .restart) (s.offerSlots ls) (ls.flatMap fun l => (s.lane l).heldTokens) s
      (s.endEveryHolding ls) := by
  induction ls generalizing s with
  | nil => exact .refl s
  | cons l rest ih =>
    obtain ⟨hl, hrest⟩ := List.nodup_cons.mp hn
    have first := s.endHoldings_gaveBack l .restart
    have others := ih hrest (s.endHoldings l .restart)
    obtain ⟨records, slots, tokens⟩ := State.holdings_congr (ls := rest) (congrArg _ first.clock)
      (fun k hk => .of_eq (s.endHoldings_other .restart fun e => hl (e ▸ hk))) .restart
    rw [records, slots, tokens] at others
    exact first.trans others

end

/-! ## Appends one after another -/

theorem State.appendUnreserved_eq (s : State) (c : Content) : s.appendUnreserved c
    = (s.withLog (s.appendUnreserved c).log).count fun _ => (s.appendUnreserved c).station.stats := by
  unfold State.appendUnreserved
  split <;> rfl

/-- Appends change the log and the landing statistics alone (R194). -/
theorem State.appendAll_eq (cs : List Content) (s : State) : cs.foldl State.appendUnreserved s
    = (s.withLog (cs.foldl State.appendUnreserved s).log).count fun _ =>
        (cs.foldl State.appendUnreserved s).station.stats := by
  induction cs generalizing s with
  | nil => rfl
  | cons c rest ih =>
    have appended := ih (s.appendUnreserved c)
    rw [List.foldl_cons]
    generalize rest.foldl State.appendUnreserved (s.appendUnreserved c) = u at appended ⊢
    refine appended.trans ?_
    rw [s.appendUnreserved_eq c]
    rfl

theorem State.appendUnreserved_congr {s t : State} (hl : t.log = s.log) (hs : t.station.stats = s.station.stats)
    (c : Content) : (t.appendUnreserved c).log = (s.appendUnreserved c).log
      ∧ (t.appendUnreserved c).station.stats = (s.appendUnreserved c).station.stats := by
  unfold State.appendUnreserved
  rw [hl]
  split
  · exact ⟨rfl, hs⟩
  · exact ⟨hl, by simp only [State.count, State.withStation, hs]⟩

/-- What appends leave of the log and the statistics comes from these alone. -/
theorem State.appendAll_congr (cs : List Content) {s t : State} (hl : t.log = s.log)
    (hs : t.station.stats = s.station.stats) :
    (cs.foldl State.appendUnreserved t).log = (cs.foldl State.appendUnreserved s).log
      ∧ (cs.foldl State.appendUnreserved t).station.stats = (cs.foldl State.appendUnreserved s).station.stats := by
  induction cs generalizing s t with
  | nil => exact ⟨hl, hs⟩
  | cons c rest ih =>
    obtain ⟨hl', hs'⟩ := State.appendUnreserved_congr hl hs c
    exact ih hl' hs'

theorem State.askedThen_congr {s t : State} (ha : t.asked = s.asked) (hl : t.log = s.log)
    (hs : t.station.stats = s.station.stats) (cs : List Content) :
    (t.askedThen cs).log = (s.askedThen cs).log ∧ (t.askedThen cs).station.stats = (s.askedThen cs).station.stats := by
  unfold State.askedThen
  rw [ha]
  exact State.appendAll_congr _ hl hs

end Sys2Proof.Machine
end

section
/-!
PROOF. A warm restart (R38, R68, R144, R170, R186, R200, R201, R215 to R218): how it begins, each of its further steps
as one change of the state, and what they leave together.
-/
namespace Sys2Proof.Machine

/-! ## How it begins -/

/-- A state with the pins and the bytes shifted out as the judgement of a restart finds them. -/
def State.foundAt (s : State) (resetInput coreUp : Bool) (out : Option StationReply) : State :=
  (s.withKeep { s.keep with resetInput := resetInput, coreUp := coreUp }).withStation
    { s.station with shiftedOut := out }

/-- What the judgement and step 1 of a warm restart make of that state (R217, R218). -/
def State.begunWarm (s : State) (cause : ResetCause) (resetInput coreUp : Bool) (out : Option StationReply) : State :=
  (s.foundAt resetInput coreUp out).beginWarm cause

/-- A restart with the kept state valid is a warm one (R217). -/
theorem State.beginRestart_valid {s : State} (hl : s.keep.latch = false) (hm : s.keep.mark ≠ .cold) {begun : ResetCause}
    (hb : begun ≠ .powerOn) : s.beginRestart begun = s.beginWarm begun :=
  if_pos (by simp [Keep.valid, hl, hm, hb])

section
variable {s : State} (hl : s.keep.latch = false) (hm : s.keep.mark ≠ .cold)
include hl hm

/-- The transfer that carries RESTART collects the pending reply and forms none (R206). -/
theorem exec_restart_warm (hr : s.keep.run = .running) : exec (.restart (.fit ())) s
    = .next (s.begunWarm .stationRestart s.keep.resetInput s.keep.coreUp
        (some (s.station.pendingReply.getD .none))) :=
  congrArg Host.Outcome.next
    ((State.onTransfer_of hr _).trans (State.beginRestart_valid (s := s.collect) hl hm (by decide)))

theorem State.release_warm (hr : s.keep.run = .held .resetLine) (hi : s.keep.resetInput = false)
    (hu : s.keep.coreUp = true) : s.release = s.beginWarm .resetLine := by
  unfold State.release
  rw [hr, hi, hu]
  exact State.beginRestart_valid hl hm (by decide)

theorem exec_resetInputRelease_warm (hr : s.keep.run = .held .resetLine) (hi : s.keep.resetInput = true)
    (hu : s.keep.coreUp = true) : exec .resetInputRelease s
    = .next (s.begunWarm .resetLine false true s.station.shiftedOut) := by
  have found : s.withKeep { s.keep with resetInput := false } = s.foundAt false true s.station.shiftedOut := by
    rw [← hu]; rfl
  refine congrArg Host.Outcome.next ((if_pos hi).trans ?_)
  rw [found]
  exact State.release_warm hl hm hr rfl rfl

theorem exec_coreSupplyRise_warm (hr : s.keep.run = .held .resetLine) (hi : s.keep.resetInput = false)
    (hu : s.keep.coreUp = false) : exec (.coreSupplyRise false) s
    = .next (s.begunWarm .resetLine false true s.station.shiftedOut) := by
  have found : s.withKeep { s.keep with coreUp := true } = s.foundAt false true s.station.shiftedOut := by
    rw [← hi]; rfl
  refine congrArg Host.Outcome.next ((if_neg (Bool.eq_false_iff.mp hu)).trans ?_)
  show (s.withKeep { s.keep with coreUp := true }).release = _
  rw [found]
  exact State.release_warm hl hm hr rfl rfl

end

/-- A lane after step 1: what waits is abandoned, and so is a held TAKE (R51, R129). -/
def Lane.stopped (x : Lane) : Lane :=
  { x with ctx := x.ctx.abandonWaiting, takeHeld := false, reply := if x.takeHeld then none else x.reply }

theorem Lane.abandonTake_eq (x : Lane) :
    x.abandonTake = { x with takeHeld := false, reply := if x.takeHeld then none else x.reply } := by
  unfold Lane.abandonTake
  split
  · rfl
  · rename_i h
    rw [← Bool.eq_false_iff.mpr h]

theorem Context.abandonWaiting_offers (c : Context) : c.abandonWaiting.offers = c.offers := by cases c <;> rfl

theorem Context.abandonWaiting_offerTokens (c : Context) : c.abandonWaiting.offerTokens = c.offerTokens := by
  cases c <;> rfl

theorem Lane.stopped_heldTokens (x : Lane) : x.stopped.heldTokens = x.heldTokens := by
  rw [Lane.heldTokens_eq, Lane.heldTokens_eq, Lane.stopped, Context.abandonWaiting_offerTokens]

section
variable (s : State) (cause : ResetCause) (resetInput coreUp : Bool) (out : Option StationReply)

theorem State.begunWarm_lane (l : LaneId) :
    (s.begunWarm cause resetInput coreUp out).lane l = (s.lane l).stopped := by
  refine (PerLane.get_map (fun x : Lane => { x with ctx := x.ctx.abandonWaiting }) _ l).trans ?_
  refine (congrArg (fun x : Lane => { x with ctx := x.ctx.abandonWaiting })
    (PerLane.get_map Lane.abandonTake s.lanes l)).trans ?_
  show { (s.lane l).abandonTake with ctx := (s.lane l).abandonTake.ctx.abandonWaiting } = _
  rw [Lane.abandonTake_eq]
  rfl

/-- The judgement and step 1 (R217, R218). -/
theorem State.begunWarm_begun : WarmBegun cause out s (s.begunWarm cause resetInput coreUp out) := by
  refine ⟨rfl, rfl, rfl, rfl, rfl, rfl, rfl, rfl, fun l => ?_, rfl, rfl, rfl, rfl, rfl⟩
  rw [State.begunWarm_lane]
  refine ⟨rfl, rfl, ?_⟩
  show (s.lane l).ctx.abandonWaiting = _
  cases (s.lane l).ctx <;> rfl

end

/-! ## Its further steps, one a millisecond -/

/-- The part a millisecond after step 2: what step 3 finds. -/
def State.suspended (t : State) : State := (t.passTime.suspendCalls.warmStage .endHoldings).passTime

/-- The part a millisecond after step 4: what step 5 finds. -/
def State.restRestarted (t : State) : State :=
  ((t.suspended.endRestartHoldings.warmStage .restartRest).passTime.restartRest.warmStage .record).passTime

/-- The part after steps 2 to 6, each taken in a millisecond of its own (R218, log 14). -/
def State.afterWarm (t : State) : State := (t.restRestarted.recordRestart.warmStage .finish).passTime.endRestart

theorem step_warm {t : State} {stage : WarmStage} (hq : t.pending = []) (hr : t.keep.run = .warmRestart stage) :
    step t = .next (t.passTime.warmStep stage) := by
  rw [step_idle hq, State.tick_warmRestart hr]

theorem State.suspendCalls_eq (s : State) :
    s.suspendCalls = s.changeCalls fun c => c.restarted s.now s.station.landing.closingGrace := s.updCall_both _

/-! ## Step 3: the holdings -/

/-- A lane after step 3 (R68). -/
def Lane.cleared (x : Lane) : Lane := { x.dropped.voided with ctx := x.dropped.voided.ctx.discardRefuse }

theorem Lane.cleared_holdings (x : Lane) : x.cleared.holdings = 0 := by
  have offers : x.cleared.ctx.offers = x.dropped.voided.ctx.offers := (Lane.discardRefuse_samePlaces _).2
  rw [Lane.holdings, offers]
  exact x.dropped_voided_holdings

/-- What step 3 does after the lanes have ended their holdings: a REFUSE is discarded, the berths take the messages in
flight (log 9), and the recent-tap table takes its own part (R144). -/
def State.holdingsTaken (u : State) : State :=
  ((u.withLanes (u.lanes.map fun x => { x with ctx := x.ctx.discardRefuse })).changeCalls
    (Call.takeWhere fun _ => true)).withTaps (tapRestart u.taps)

theorem State.endRestartHoldings_taken (s : State) :
    s.endRestartHoldings = (s.endEveryHolding LaneId.list).holdingsTaken := by
  unfold State.endRestartHoldings State.takeAllInFlight
  generalize s.endEveryHolding LaneId.list = u
  dsimp only
  rw [State.updCall_both]
  rfl

theorem State.holdingsTaken_lane (u : State) (l : LaneId) :
    u.holdingsTaken.lane l = { u.lane l with ctx := (u.lane l).ctx.discardRefuse } := PerLane.get_map _ u.lanes l

theorem State.holdingsTaken_berth (u : State) (b : BerthId) :
    u.holdingsTaken.berth b = (u.berth b).changed (Call.takeWhere fun _ => true) := State.changeCalls_berth _ _ b

theorem State.endRestartHoldings_lane (s : State) (l : LaneId) : s.endRestartHoldings.lane l = (s.lane l).cleared := by
  rw [State.endRestartHoldings_taken, State.holdingsTaken_lane, State.endEveryHolding_lane LaneId.list_nodup,
    if_pos (LaneId.mem_list l)]
  rfl

theorem State.endRestartHoldings_placesHeld (s : State) (b : BerthId) : s.endRestartHoldings.placesHeld b = 0 := by
  refine (PerLane.sum_congr (g := id) (q := PerLane.all 0) fun l => ?_).trans rfl
  rw [PerLane.get_all]
  have holds := congrArg Lane.holdings (s.endRestartHoldings_lane l)
  exact Lane.placesOn_of_empty (holds.trans (s.lane l).cleared_holdings) b

/-- No place is held after step 3, so each call's reserved count is 0 (R2, R68). -/
theorem State.endRestartHoldings_berth {s : State} (hp : PlaceLaw s) (b : BerthId) :
    s.endRestartHoldings.berth b = (s.berth b).changed fun c => c.emptied 0 := by
  obtain ⟨ms, hms, joined⟩ := (State.endEveryHolding_gaveBack LaneId.list_nodup s).berth b
  have taken : s.endRestartHoldings.berth b = ((s.berth b).joined ms).changed (Call.takeWhere fun _ => true) := by
    rw [← joined, State.endRestartHoldings_taken, State.holdingsTaken_berth]
  have law := (placeLaw_iff _).mp (s.endRestartHoldings_keepsPlaces hp).1
  have held := s.endRestartHoldings_placesHeld b
  generalize s.endRestartHoldings = v at taken law held
  rw [taken]
  cases hc : (s.berth b).call with
  | none => simp only [Berth.changed, Berth.joined, hc, Option.map_none]
  | some c =>
    obtain ⟨k, hk⟩ := c.takeWhere_joined hms
    have call : v.call b = some (c.emptied k) := by
      rw [State.call, taken, ← hk]
      simp only [Berth.changed, Berth.joined, hc, Option.map_some]
    have reserved : k = v.placesHeld b + 0 := (law.calls b _ call).1
    obtain rfl : k = 0 := by rw [reserved, held]
    simp only [Berth.changed, Berth.joined, hc, Option.map_some, hk]

/-- Step 3 as one change (R68, R144). -/
theorem State.endRestartHoldings_eq {s : State} (hp : PlaceLaw s) :
    ∃ event, s.endRestartHoldings = { s with
      lanes := s.lanes.map Lane.cleared
      berths := { a := s.berths.a.changed fun c => c.emptied 0, b := s.berths.b.changed fun c => c.emptied 0 }
      taps := tapRestart ((LaneId.list.flatMap fun l => (s.lane l).heldTokens).foldl tapRelease s.taps)
      log := s.log.afterAppends (s.voidRecords LaneId.list .restart) (s.offerSlots LaneId.list)
      station := { s.station with causes := { s.station.causes with
        berthEvent := s.station.causes.berthEvent || event } } } := by
  have back := State.endEveryHolding_gaveBack LaneId.list_nodup s
  have asked := State.endEveryHolding_asked LaneId.list s
  have pending := (s.endEveryHolding_quiet LaneId.list).pending
  have berthA : s.endRestartHoldings.berths.a = _ := State.endRestartHoldings_berth hp .berthA
  have berthB : s.endRestartHoldings.berths.b = _ := State.endRestartHoldings_berth hp .berthB
  have lanes (l : LaneId) : s.endRestartHoldings.lanes.get l = (s.lanes.map Lane.cleared).get l :=
    (s.endRestartHoldings_lane l).trans (PerLane.get_map Lane.cleared s.lanes l).symm
  rw [State.endRestartHoldings_taken] at berthA berthB lanes ⊢
  generalize s.endEveryHolding LaneId.list = u at back asked pending berthA berthB lanes
  refine ⟨u.callsEvent (Call.takeWhere fun _ => true), State.eq_of_blocks back.clock back.keep (PerLane.ext_get lanes)
    (congrArg₂ PerBerth.mk berthA berthB) back.fare (congrArg tapRestart back.taps) back.deny back.port back.log asked
    ?station pending⟩
  case station =>
    simp only [← back.station]
    rfl

/-! ## Steps 4 to 6 -/

/-- Step 4 as one change (R83, R170, R186). -/
theorem State.restartRest_eq (s : State) : s.restartRest =
    (((s.withLanes (s.lanes.map fun x => x.startConditioner s.now)).withDeny s.deny.restarted).withPort
      (s.port.restarted s.deny.rebuild.isSome)).latch fun x =>
        { x with
          listDone := x.listDone || s.deny.unfinished
          settingsDone := x.settingsDone || decide (s.port.store = .storing) } := by
  unfold State.restartRest
  cases s.deny.unfinished <;> by_cases h : s.port.store = .storing <;>
    simp only [h, decide_true, decide_false, if_true, if_false, Bool.or_true, Bool.or_false, Bool.false_eq_true] <;> rfl

/-- Step 5 as one change (R201). -/
theorem State.recordRestart_eq (s : State) : s.recordRestart
    = ((s.withAsked []).withLog (s.askedThen [.restart s.clock.calendar s.keep.resetCause]).log).count fun _ =>
        (s.askedThen [.restart s.clock.calendar s.keep.resetCause]).station.stats := by
  have appended : s.recordRestart = s.askedThen [.restart s.clock.calendar s.keep.resetCause] := by
    unfold State.askedThen
    rw [List.foldl_append]
    rfl
  rw [appended]
  exact State.appendAll_eq _ (s.withAsked [])

/-- The recent-tap table after a waiting change of day is handed to it (R216). -/
def tapsHanded (waiting : Bool) (calendar : Option CalTime) (t : List TapEntry) : List TapEntry :=
  match waiting, calendar with
  | true, some d => tapUnpin t d.day
  | _, _ => t

theorem tapsHanded_none_waits (calendar : Option CalTime) (t : List TapEntry) : tapsHanded false calendar t = t := rfl

theorem tapsHanded_waits (d : CalTime) (t : List TapEntry) : tapsHanded true (some d) t = tapUnpin t d.day := rfl

theorem State.handWaitingDay_eq (s : State) :
    s.handWaitingDay = s.withTaps (tapsHanded s.keep.dayChange s.clock.calendar s.taps) := by
  unfold State.handWaitingDay
  cases s.keep.dayChange <;> cases s.clock.calendar <;> rfl

/-- Step 6 as one change, the flash still busy (R214, R216, R217). -/
theorem State.endRestart_eq {s : State} (h : s.port.op = some .reset) : s.endRestart
    = ((s.withTaps (tapsHanded s.keep.dayChange s.clock.calendar s.taps)).withKeep
        { s.keep with run := .running, mark := .unmarked, dayChange := false }).latchRestarted := by
  unfold State.endRestart
  rw [State.handWaitingDay_eq]
  exact State.arbitrate_busy h

/-! ## The steps together -/

theorem State.warmStep_pending (s : State) (stage : WarmStage) : (s.warmStep stage).pending = s.pending := by
  cases stage with
  | suspendCalls => exact ((s.updCall_quiet _ _).trans (State.updCall_quiet _ _ _)).pending
  | endHoldings =>
    have quiet := s.endEveryHolding_quiet LaneId.list
    rw [State.warmStep, State.endRestartHoldings_taken]
    generalize s.endEveryHolding LaneId.list = u at quiet
    exact quiet.pending
  | restartRest => rw [State.warmStep, State.restartRest_eq]; rfl
  | record => rw [State.warmStep, State.recordRestart_eq]; rfl
  | finish =>
    rw [State.warmStep, State.endRestart, State.handWaitingDay_eq]
    rfl

theorem stepTimes_warm {t : State} (hr : t.keep.run = .warmRestart .suspendCalls) (hq : t.pending = []) :
    stepTimes 5 t = .next t.afterWarm := by
  have idle {u : State} {stage : WarmStage} (h : u.pending = []) : (u.passTime.warmStep stage).pending = [] :=
    (State.warmStep_pending _ _).trans h
  have next {n : Nat} {u : State} {stage : WarmStage} (hq : u.pending = []) (hr : u.keep.run = .warmRestart stage) :
      stepTimes (n + 1) u = stepTimes n (u.passTime.warmStep stage) := by
    simp only [stepTimes, step_warm hq hr]
  rw [next hq hr, next (idle hq) rfl, next (idle (idle hq)) rfl, next (idle (idle (idle hq))) rfl,
    next (idle (idle (idle (idle hq)))) rfl]
  simp only [stepTimes, State.afterWarm, State.restRestarted, State.suspended, State.warmStep]

/-- What step 2 makes of an open call, a millisecond after the judgement (R38). -/
def State.suspension (t : State) (c : Call) : Call :=
  c.restarted (t.clock.after 1).timeBase t.station.landing.closingGrace

theorem State.suspended_eq (t : State) :
    t.suspended = ((t.passTime.changeCalls t.suspension).warmStage .endHoldings).passTime := by
  rw [State.suspended, State.suspendCalls_eq]
  rfl

theorem State.suspended_placeLaw {t : State} (hp : PlaceLaw t) : PlaceLaw t.suspended :=
  (((t.withClock_aside _).keepsPlaces.trans (State.warmStep_keepsPlaces _ .suspendCalls)).trans
    (State.withClock_aside _ _).keepsPlaces hp).1

/-- The suspension of the calls leaves what the lanes hold. -/
theorem State.suspended_holdings (t : State) :
    t.suspended.voidRecords LaneId.list .restart = t.voidRecords LaneId.list .restart
      ∧ t.suspended.offerSlots LaneId.list = t.offerSlots LaneId.list
      ∧ (LaneId.list.flatMap fun l => (t.suspended.lane l).heldTokens)
        = LaneId.list.flatMap fun l => (t.lane l).heldTokens := by
  rw [State.suspended_eq]
  exact State.holdings_congr rfl (fun _ _ => .of_eq rfl) .restart

/-- Every block after steps 2 to 4. -/
theorem State.restRestarted_eq {t : State} (hp : PlaceLaw t) : ∃ event, t.restRestarted =
    { clock := t.clock.after 4
      keep := { t.keep with run := .warmRestart .record }
      lanes := (t.lanes.map Lane.cleared).map fun x => x.startConditioner (t.clock.after 3).timeBase
      berths :=
        { a := (t.berths.a.changed t.suspension).changed fun c => c.emptied 0
          b := (t.berths.b.changed t.suspension).changed fun c => c.emptied 0 }
      fare := t.fare
      taps := tapRestart ((LaneId.list.flatMap fun l => (t.lane l).heldTokens).foldl tapRelease t.taps)
      deny := t.deny.restarted
      port := t.port.restarted t.deny.rebuild.isSome
      log := t.log.afterAppends (t.voidRecords LaneId.list .restart) (t.offerSlots LaneId.list)
      asked := t.asked
      station := { t.station with causes := { t.station.causes with
        berthEvent := t.station.causes.berthEvent || t.callsEvent t.suspension || event
        listDone := t.station.causes.listDone || t.deny.unfinished
        settingsDone := t.station.causes.settingsDone || decide (t.port.store = .storing) } }
      pending := t.pending } := by
  obtain ⟨event, ended⟩ := State.endRestartHoldings_eq (State.suspended_placeLaw hp)
  obtain ⟨records, slots, tokens⟩ := t.suspended_holdings
  rw [records, slots, tokens, State.suspended_eq] at ended
  rw [State.restRestarted, State.suspended_eq, ended, State.restartRest_eq]
  exact ⟨event, State.eq_of_blocks rfl rfl rfl rfl rfl rfl rfl rfl rfl rfl rfl rfl⟩

/-- Steps 5 and 6: the records asked for and then the RESTART record, and the end of the restart (R201, R214, R216,
R217, log 34). -/
theorem State.recorded_ended {v : State} (ho : v.port.op = some .reset) :
    (v.recordRestart.warmStage .finish).passTime.endRestart = { v with
      clock := v.clock.tick
      keep := { v.keep with run := .running, mark := .unmarked, dayChange := false }
      taps := tapsHanded v.keep.dayChange v.clock.calendar v.taps
      log := (v.askedThen [.restart v.clock.calendar v.keep.resetCause]).log
      asked := []
      station := { v.station with
        causes := { v.station.causes with restarted := true }
        stats := (v.askedThen [.restart v.clock.calendar v.keep.resetCause]).station.stats } } := by
  rw [State.recordRestart_eq, State.endRestart_eq (by exact ho)]
  rfl

section
variable {t : State} (hp : PlaceLaw t) (ho : t.port.op = some .reset)
include hp ho

theorem State.afterWarm_eq : t.afterWarm = { t.restRestarted with
    clock := t.restRestarted.clock.tick
    keep := { t.keep with run := .running, mark := .unmarked, dayChange := false }
    taps := tapsHanded t.keep.dayChange t.clock.calendar t.restRestarted.taps
    log := (t.restRestarted.askedThen [.restart t.clock.calendar t.keep.resetCause]).log
    asked := []
    station := { t.restRestarted.station with
      causes := { t.restRestarted.station.causes with restarted := true }
      stats := (t.restRestarted.askedThen [.restart t.clock.calendar t.keep.resetCause]).station.stats } } := by
  obtain ⟨event, found⟩ := State.restRestarted_eq hp
  have op : t.restRestarted.port.op = some .reset := by rw [found]; exact ho
  have keep : t.restRestarted.keep = { t.keep with run := .warmRestart .record } := by rw [found]
  have calendar : t.restRestarted.clock.calendar = t.clock.calendar := by rw [found]; rfl
  rw [State.afterWarm, State.recorded_ended op, calendar]
  simp only [keep]

theorem State.afterWarm_lane (l : LaneId) :
    t.afterWarm.lane l = (t.lane l).cleared.startConditioner (t.clock.after 3).timeBase := by
  obtain ⟨event, found⟩ := State.restRestarted_eq hp
  rw [State.afterWarm_eq hp ho, found]
  exact (PerLane.get_map _ _ l).trans
    (congrArg (fun x => x.startConditioner (t.clock.after 3).timeBase) (PerLane.get_map Lane.cleared t.lanes l))

theorem State.afterWarm_berth (b : BerthId) :
    t.afterWarm.berth b = ((t.berth b).changed t.suspension).changed fun c => c.emptied 0 := by
  obtain ⟨event, found⟩ := State.restRestarted_eq hp
  rw [State.afterWarm_eq hp ho, found]
  cases b <;> rfl

/-- The trip log's part of a warm restart: the holdings' records and slots, then what was asked of it and the RESTART
record (R68, R201, log 34). -/
theorem State.afterWarm_log {u : State} (ha : u.asked = t.asked)
    (hl : u.log = t.log.afterAppends (t.voidRecords LaneId.list .restart) (t.offerSlots LaneId.list))
    (hs : u.station.stats = t.station.stats) :
    t.afterWarm.log = (u.askedThen [.restart t.clock.calendar t.keep.resetCause]).log
      ∧ t.afterWarm.station.stats = (u.askedThen [.restart t.clock.calendar t.keep.resetCause]).station.stats := by
  obtain ⟨event, found⟩ := State.restRestarted_eq hp
  rw [State.afterWarm_eq hp ho]
  dsimp only
  exact State.askedThen_congr (by rw [found, ha]) (by rw [found, hl]) (by rw [found, hs]) _

end

/-! ## What it leaves -/

theorem DenyUnit.unfinished_eq (d : DenyUnit) : d.unfinished
    = (decide (d.standby = .erasing) || decide (d.standby = .opened) || decide (d.standby = .committing)) := by
  unfold DenyUnit.unfinished
  cases d.standby <;> rfl

/-- The deny list unit at step 4: an unfinished standby bank is FAULT, with the writer emptied (R170). -/
theorem DenyUnit.restarted_eq (unit d : DenyUnit)
    (hd : d = { unit with queue := [], rebuild := unit.rebuild.map fun _ => { position := 0, fresh := 0 } }) :
    DenyUnit.restarted { unit with queue := [] } = match unit.standby with
      | .stale | .fault => d
      | .erasing | .opened | .committing =>
        { d with standby := .fault, buffer := none, entriesTaken := 0, overflowUsed := 0 } := by
  subst hd
  obtain ⟨_, _, _, _, _, standby, _, _, _, _, _⟩ := unit
  cases standby <;> rfl

/-- The suspension of a call that was not suspended latches BERTH_EVENT (R37, R38). -/
theorem State.suspension_event (t : State) {c : Call} (h : c.suspended = false) :
    berthEvent (some c) (some (t.suspension c)) = true := by
  refine (berthEvent_iff _ _).mpr (.inl ?_)
  have suspended : callState (some (t.suspension c)) = .suspended := rfl
  rw [suspended, callState, h]
  cases c.stage <;> simp

/-- A lane after the whole restart (R68, R83). -/
theorem Lane.restarted_eq (x : Lane) (now : Nat) : x.stopped.cleared.startConditioner now = { x with
    ctx := .free, entries := [], takeHeld := false
    takeDeadline := if x.ctx.isOffer then none else x.takeDeadline
    reply := if x.takeHeld then none else x.reply
    stats := { x.stats with
      voided := bumpBy x.entries.length x.stats.voided
      offersDropped := bumpBy x.ctx.offers x.stats.offersDropped }
    cond := x.restartedCond now } := by
  obtain ⟨_, _, ctx, _, _, _, _, _, _⟩ := x
  cases ctx <;> rfl

section
variable (s : State) (cause : ResetCause) (resetInput coreUp : Bool) (out : Option StationReply)

theorem State.offerSlots_all : s.offerSlots LaneId.list = s.lanes.sum fun x => x.ctx.offers := by
  rw [PerLane.sum_eq_list]
  rfl

/-- The work that step 1 stops is no holding (R129). -/
theorem State.begunWarm_holdings :
    (s.begunWarm cause resetInput coreUp out).voidRecords LaneId.list .restart
        = s.voidRecords LaneId.list .restart
      ∧ (s.begunWarm cause resetInput coreUp out).offerSlots LaneId.list = s.offerSlots LaneId.list
      ∧ (LaneId.list.flatMap fun l => ((s.begunWarm cause resetInput coreUp out).lane l).heldTokens)
        = LaneId.list.flatMap fun l => (s.lane l).heldTokens := by
  refine State.holdings_congr (s := s) (t := s.begunWarm cause resetInput coreUp out) rfl (fun l _ => ?_) .restart
  rw [State.begunWarm_lane]
  exact ⟨rfl, Context.abandonWaiting_offers _, Lane.stopped_heldTokens _⟩

theorem State.begunWarm_placeLaw (hp : PlaceLaw s) : PlaceLaw (s.begunWarm cause resetInput coreUp out) :=
  ((KeepsPlaces.of_eq (t := s.foundAt resetInput coreUp out) rfl rfl fun stage hr => ⟨stage, hr⟩).trans
    (State.beginWarm_keepsPlaces _ cause) hp).1

/-- What a warm restart with no command falling between its steps leaves (R218). -/
theorem State.afterWarm_restarted (hp : PlaceLaw s) :
    WarmRestarted cause out s (s.begunWarm cause resetInput coreUp out).afterWarm := by
  obtain ⟨records, slots, tokens⟩ := s.begunWarm_holdings cause resetInput coreUp out
  have places := s.begunWarm_placeLaw cause resetInput coreUp out hp
  obtain ⟨event, found⟩ := State.restRestarted_eq places
  have lane := State.afterWarm_lane places rfl
  have berth := State.afterWarm_berth places rfl
  have logged {u : State} := State.afterWarm_log (u := u) places rfl
  rw [records, slots] at logged
  rw [tokens] at found
  have call (b : BerthId) : (s.begunWarm cause resetInput coreUp out).afterWarm.call b
      = ((s.call b).map s.suspension).map fun c => c.emptied 0 := congrArg Berth.call (berth b)
  rw [State.afterWarm_eq places rfl, found] at lane berth logged call ⊢
  refine ⟨rfl, rfl, rfl, rfl, rfl, rfl, rfl, rfl, rfl, rfl, rfl, rfl, rfl, rfl, ?berthEvent, ?listDone, rfl, ?lanes,
    ?berths, ?vacant, ?calls, ?taps, ?log, ?deny, rfl⟩
  case berthEvent =>
    show _ → (s.station.causes.berthEvent || s.callsEvent s.suspension || event) = true
    rintro (h | ⟨b, c, hc, hs⟩)
    · rw [h, Bool.true_or, Bool.true_or]
    · rw [State.callsEvent_of hc (s.suspension_event hs), Bool.or_true, Bool.true_or]
  case listDone =>
    show (s.station.causes.listDone || s.deny.unfinished) = _
    rw [DenyUnit.unfinished_eq, ← Bool.or_assoc, ← Bool.or_assoc]
  case lanes =>
    intro l
    rw [lane, State.begunWarm_lane, Lane.restarted_eq]
    cases (s.lane l).ctx <;> rfl
  case berths =>
    intro b
    rw [berth]
    exact ⟨rfl, rfl⟩
  case vacant =>
    intro b hc
    rw [call, hc]
    rfl
  case calls =>
    rintro b c n hc rfl
    rw [call, hc]
    rfl
  case taps =>
    rintro kept rfl
    refine ⟨fun hd => ?_, fun d hd hcal => ?_⟩
    · show tapsHanded s.keep.dayChange s.clock.calendar _ = _
      rw [hd, tapsHanded_none_waits]
      rfl
    · show tapsHanded s.keep.dayChange s.clock.calendar _ = _
      rw [hd, hcal, tapsHanded_waits]
      rfl
  case log =>
    rintro u rfl
    exact logged rfl (by rw [State.offerSlots_all]; rfl) rfl
  case deny => exact DenyUnit.restarted_eq s.deny

end

/-- Settles O58, by the three ways a warm restart begins. -/
theorem warmRestartKeepsAndEnds : Obligations.WarmRestartKeepsAndEnds := by
  unfold Obligations.WarmRestartKeepsAndEnds
  rintro s hl hm hp restarts rfl
  have restarted {c : Instr} {cause : ResetCause} {resetInput coreUp : Bool} {out : Option StationReply}
      (h : exec c s = .next (s.begunWarm cause resetInput coreUp out)) :
      ∃ t0, exec c s = .next t0 ∧ WarmBegun cause out s t0 ∧ t0.keep.resetInput = resetInput ∧ t0.keep.coreUp = coreUp
        ∧ (s.pending = [] → ∃ t, stepTimes 5 t0 = .next t ∧ WarmRestarted cause out s t) :=
    ⟨_, h, s.begunWarm_begun cause resetInput coreUp out, rfl, rfl, fun hq =>
      ⟨_, stepTimes_warm rfl hq, s.afterWarm_restarted cause resetInput coreUp out hp⟩⟩
  exact ⟨fun hr => restarted (exec_restart_warm hl hm hr),
    fun hr hi hu => restarted (exec_resetInputRelease_warm hl hm hr hi hu),
    fun hr hi hu => restarted (exec_coreSupplyRise_warm hl hm hr hi hu)⟩

end Sys2Proof.Machine
end

section
/-!
PROOF. The pins and supplies that hold and release the part (R215, R216), what a held or restarting part acts on (R214,
R216, R219), and the restarts that are cold (R217, R220).
-/
namespace Sys2Proof.Machine

/-! ## The edges of the reset input and the core supply -/

section
variable {s : State}

theorem exec_resetInputAssert_released (h : s.keep.resetInput = false) : exec .resetInputAssert s
    = .next (s.enterHold.withKeep { s.enterHold.keep with resetInput := true }) :=
  congrArg Host.Outcome.next (if_neg (Bool.eq_false_iff.mp h))

theorem exec_resetInputRelease_asserted (h : s.keep.resetInput = true) : exec .resetInputRelease s
    = .next (s.withKeep { s.keep with resetInput := false }).release :=
  congrArg Host.Outcome.next (if_pos h)

theorem exec_coreSupplyFall_up (h : s.keep.coreUp = true) : exec .coreSupplyFall s
    = .next (s.enterHold.withKeep { s.enterHold.keep with coreUp := false }) :=
  congrArg Host.Outcome.next (if_pos h)

theorem exec_coreSupplyRise_down (h : s.keep.coreUp = false) (retentionLow : Bool) :
    exec (.coreSupplyRise retentionLow) s = .next (s.withKeep { s.keep with
      coreUp := true, run := if retentionLow then .held .powerOn else s.keep.run }).release :=
  congrArg Host.Outcome.next (if_neg (Bool.eq_false_iff.mp h))

/-! ## The hold -/

theorem State.enterHold_held {r : ResetCause} (h : s.keep.run = .held r) : s.enterHold = s := by
  unfold State.enterHold
  rw [h]

theorem State.enterHold_of (h : ∀ r, s.keep.run ≠ .held r) :
    s.enterHold = s.abandonLinks.withKeep { s.keep with run := .held .resetLine } := by
  unfold State.enterHold
  split
  case h_1 r hr => exact absurd hr (h r)
  all_goals rfl

/-- The reset input or the core supply still holds the part (log 15). -/
theorem State.release_stays (h : s.keep.resetInput = true ∨ s.keep.coreUp = false) : s.release = s := by
  have stays : ¬(!s.keep.resetInput && s.keep.coreUp) = true := by
    rcases h with h | h <;> simp [h]
  unfold State.release
  split
  · exact if_neg stays
  all_goals rfl

theorem State.release_begins {begun : ResetCause} (hr : s.keep.run = .held begun) (hi : s.keep.resetInput = false)
    (hu : s.keep.coreUp = true) : s.release = s.beginRestart begun := by
  unfold State.release
  rw [hr, hi, hu]
  rfl

theorem State.attention_held {r : ResetCause} (h : s.keep.run = .held r) : s.attention = false := by
  unfold State.attention
  rw [h]
  rfl

/-! ## What a held or restarting part acts on -/

theorem exec_flashReadyTimeout_idle (notCold : ∀ stage, s.keep.run ≠ .coldStart stage) :
    exec .flashReadyTimeout s = .next s := by
  refine congrArg Host.Outcome.next ?_
  split
  case h_1 waited hr => exact absurd hr (notCold (.flashReset waited))
  case h_2 => rfl

section
variable (idle : s.keep.run ≠ .running)
include idle

theorem exec_pageReadEnd_idle (notCold : ∀ stage, s.keep.run ≠ .coldStart stage) (reads : FlashReads) :
    exec (.pageReadEnd reads) s = .next s := by
  refine congrArg Host.Outcome.next ?_
  split
  case h_1 hr _ => exact absurd hr idle
  case h_2 stage _ hr _ => exact absurd hr (notCold stage)
  case h_3 => rfl

/-- A part in a warm restart takes the end of the reset operation (R218); a held one does not. -/
theorem exec_flashResetEnd_idle (notCold : ∀ stage, s.keep.run ≠ .coldStart stage)
    (notWarm : ∀ stage, s.keep.run ≠ .warmRestart stage) : exec .flashResetEnd s = .next s := by
  refine congrArg Host.Outcome.next ?_
  split
  case h_1 hr => exact absurd hr idle
  case h_2 stage _ hr => exact absurd hr (notWarm stage)
  case h_3 waited _ hr => exact absurd hr (notCold (.flashReset waited))
  case h_4 => rfl

/-- Every event that neither the outside nor a transfer brings is one of a part that runs, but for the three ends at
the flash that a restart may take (R216, R219). -/
theorem exec_inside_idle (notCold : ∀ stage, s.keep.run ≠ .coldStart stage) {c : Instr}
    (outside : Instr.fromOutside c = false) (station : Instr.viaStation c = false)
    (reset : c = .flashResetEnd → ∀ stage, s.keep.run ≠ .warmRestart stage) : exec c s = .next s := by
  cases c
  case rawLevelChange | calendarSecond | resetInputAssert | resetInputRelease | coreSupplyRise | coreSupplyFall
      | retentionSupplyDip => cases outside
  case readStatus | readStats | setClock | setLane | setLanding | writeFare | readFare | stagePlan | cancelPlan | setCap
      | closeBerth | reopenBerth | forceVacate | laneClear | listBegin | listAdd | listCommit | logPeek | logDrop
      | storeSettings | restart | rttQuery | emptyFrame | stationBadFrame | stationUnknownCommand => cases station
  case pageReadEnd reads => exact exec_pageReadEnd_idle idle notCold reads
  case flashResetEnd => exact exec_flashResetEnd_idle idle notCold (reset rfl)
  case flashReadyTimeout => exact exec_flashReadyTimeout_idle notCold
  all_goals exact congrArg Host.Outcome.next (State.whenRunning_not idle _)

end
end

/-- Settles O57: the edges that enter the hold, the held part, the part in a warm restart, and the dip. -/
theorem resetLineHoldsThePart : Obligations.ResetLineHoldsThePart := by
  unfold Obligations.ResetLineHoldsThePart
  intro s
  refine ⟨?enters, ?held, ?restarting, rfl⟩
  case enters =>
    rintro hi hu hn t rfl
    rw [exec_resetInputAssert_released hi, exec_coreSupplyFall_up hu, State.enterHold_of hn]
    exact ⟨rfl, rfl⟩
  case held =>
    intro r hr
    have idle : s.keep.run ≠ .running := fun h => nomatch hr.symm.trans h
    refine ⟨State.attention_held hr, fun c => ?inside, fun c => exec_viaStation_idle idle, fun hi => ?assert,
      fun hu => ?fall, fun hi hu => ⟨?release, ?rise, ?riseLow⟩⟩
    case inside =>
      exact fun outside station => exec_inside_idle idle (fun _ h => nomatch hr.symm.trans h) outside station
        fun _ _ h => nomatch hr.symm.trans h
    case assert => rw [exec_resetInputAssert_released hi, State.enterHold_held hr]
    case fall => rw [exec_coreSupplyFall_up hu, State.enterHold_held hr]
    case release =>
      exact (exec_resetInputRelease_asserted hi).trans (congrArg Host.Outcome.next (State.release_stays (.inr hu)))
    case rise =>
      exact (exec_coreSupplyRise_down hu false).trans (congrArg Host.Outcome.next (State.release_stays (.inl hi)))
    case riseLow =>
      exact (exec_coreSupplyRise_down hu true).trans (congrArg Host.Outcome.next (State.release_stays (.inl hi)))
  case restarting =>
    intro stage hr
    have idle : s.keep.run ≠ .running := fun h => nomatch hr.symm.trans h
    refine ⟨fun c outside station notReset => ?_, fun c => exec_viaStation_idle idle⟩
    exact exec_inside_idle idle (fun _ h => nomatch hr.symm.trans h) outside station fun h => absurd h notReset

/-! ## The cold start -/

theorem Lane.cold_eq (x : Lane) : x.cold = { Lane.initial x.cond.raw with
    reply := if x.takeHeld then none else x.reply } := by
  rw [Lane.cold, Lane.abandonTake_eq]

section
variable {s : State}

theorem State.beginCold_lane (cause : ResetCause) (l : LaneId) : (s.beginCold cause).lane l = (s.lane l).cold :=
  PerLane.get_map Lane.cold s.lanes l

theorem State.beginCold_berth (cause : ResetCause) (b : BerthId) : (s.beginCold cause).berth b = (s.berth b).cold := by
  cases b <;> rfl

/-- Every block at its initial value (R220 step 1). -/
theorem State.beginCold_started (s : State) (cause : ResetCause) :
    ColdStarted cause s.station.shiftedOut s (s.beginCold cause) := by
  refine ⟨rfl, rfl, rfl, rfl, rfl, rfl, rfl, rfl, fun b => ?berth, fun l => ?lane, rfl, rfl, rfl, rfl, rfl⟩
  case berth => exact State.beginCold_berth cause b
  case lane => rw [State.beginCold_lane, Lane.cold_eq]

/-- A power-on that is due is a cold start whatever the kept state (R215, R217). -/
theorem State.release_powerOn (hr : s.keep.run = .held .powerOn) (hi : s.keep.resetInput = false)
    (hu : s.keep.coreUp = true) : s.release = s.beginCold .powerOn := by
  have invalid : ¬ s.keep.valid .powerOn = true := by simp [Keep.valid]
  rw [State.release_begins hr hi hu, State.beginRestart, if_neg invalid, if_pos rfl]

theorem exec_resetInputRelease_powerOn (hr : s.keep.run = .held .powerOn) (hi : s.keep.resetInput = true)
    (hu : s.keep.coreUp = true) : exec .resetInputRelease s
    = .next ((s.withKeep { s.keep with resetInput := false }).beginCold .powerOn) :=
  (exec_resetInputRelease_asserted hi).trans (congrArg Host.Outcome.next (State.release_powerOn hr rfl hu))

/-- A rise with the retention supply low makes a power-on due, whatever reset was held (R215). -/
theorem exec_coreSupplyRise_powerOn (hi : s.keep.resetInput = false) (hu : s.keep.coreUp = false) :
    exec (.coreSupplyRise true) s
      = .next ((s.withKeep { s.keep with coreUp := true, run := .held .powerOn }).beginCold .powerOn) :=
  (exec_coreSupplyRise_down hu true).trans (congrArg Host.Outcome.next (State.release_powerOn rfl hi rfl))

section
variable (lost : s.keep.latch = true ∨ s.keep.mark = .cold)
include lost

/-- A restart with the kept state lost is a cold one (R217). -/
theorem State.beginRestart_lost {begun : ResetCause} (hb : begun ≠ .powerOn) :
    s.beginRestart begun = s.beginCold .keepLost := by
  have invalid : ¬ s.keep.valid begun = true := by
    rcases lost with h | h <;> simp [Keep.valid, h]
  rw [State.beginRestart, if_neg invalid, if_neg hb]

/-- The transfer that carries RESTART collects the pending reply and forms none (R206). -/
theorem exec_restart_lost (hr : s.keep.run = .running) :
    exec (.restart (.fit ())) s = .next (s.collect.beginCold .keepLost) :=
  congrArg Host.Outcome.next
    ((State.onTransfer_of hr _).trans (State.beginRestart_lost (s := s.collect) lost (by decide)))

theorem State.release_lost (hr : s.keep.run = .held .resetLine) (hi : s.keep.resetInput = false)
    (hu : s.keep.coreUp = true) : s.release = s.beginCold .keepLost :=
  (State.release_begins hr hi hu).trans (State.beginRestart_lost lost (by decide))

theorem exec_resetInputRelease_lost (hr : s.keep.run = .held .resetLine) (hi : s.keep.resetInput = true)
    (hu : s.keep.coreUp = true) : exec .resetInputRelease s
    = .next ((s.withKeep { s.keep with resetInput := false }).beginCold .keepLost) :=
  (exec_resetInputRelease_asserted hi).trans (congrArg Host.Outcome.next (State.release_lost lost hr rfl hu))

theorem exec_coreSupplyRise_lost (hr : s.keep.run = .held .resetLine) (hi : s.keep.resetInput = false)
    (hu : s.keep.coreUp = false) : exec (.coreSupplyRise false) s
    = .next ((s.withKeep { s.keep with coreUp := true }).beginCold .keepLost) :=
  (exec_coreSupplyRise_down hu false).trans (congrArg Host.Outcome.next (State.release_lost lost hr hi rfl))

end
end

/-- Settles O59, by the ways a cold start begins; the edge or the transfer before it leaves what the links hold. -/
theorem lostStateOrPowerOnStartsCold : Obligations.LostStateOrPowerOnStartsCold := by
  unfold Obligations.LostStateOrPowerOnStartsCold
  intro s
  have begun {c : Instr} {k : Keep} {cause : ResetCause} (h : exec c s = .next ((s.withKeep k).beginCold cause)) :
      ∃ t, exec c s = .next t ∧ ColdStarted cause s.station.shiftedOut s t :=
    ⟨_, h, State.beginCold_started (s.withKeep k) cause⟩
  refine ⟨fun lost => ⟨fun hr => ?restart, fun hr hi hu => ?release, fun hr hi hu => ?rise⟩,
    fun r _ hi hu => ?riseLow, fun hr hi hu => ?releaseLow⟩
  case restart => exact ⟨_, exec_restart_lost lost hr, s.collect.beginCold_started .keepLost⟩
  case release => exact begun (exec_resetInputRelease_lost lost hr hi hu)
  case rise => exact begun (exec_coreSupplyRise_lost lost hr hi hu)
  case riseLow => exact begun (exec_coreSupplyRise_powerOn hi hu)
  case releaseLow => exact begun (exec_resetInputRelease_powerOn hr hi hu)

end Sys2Proof.Machine
end

section
/-!
PROOF. The step takes the command at the front of the queue, and every command goes on with the queue as it stood (logs
1, 25). No shared operation writes the queue; each says so once.
-/
namespace Sys2Proof.Machine

/-! ## The step -/

/-- A waiting command is taken whole, with the queue's rest standing. -/
theorem step_front {s : State} {c : Instr} {rest : List Instr} (h : s.pending = c :: rest) :
    step s = exec c (s.withPending rest) := by
  simp only [step, h]

/-- Settles O1, by the step's case of a waiting command. -/
theorem stepTakesTheFrontCommand : Obligations.StepTakesTheFrontCommand := by
  unfold Obligations.StepTakesTheFrontCommand
  intro c rest s
  calc step (s.withPending (c :: rest))
      = exec c ((s.withPending (c :: rest)).withPending rest) := step_front (s.withPending_pending _)
    _ = exec c (s.withPending rest) := by rw [State.withPending_withPending]

section
variable (s : State) (l : LaneId) (b : BerthId)

/-! ## The berths -/

@[simp] theorem State.setCall_pending (c : Option Call) : (s.setCall b c).pending = s.pending :=
  (s.setCall_quiet b c).pending

@[simp] theorem State.updCall_pending (f : Call → Call) : (s.updCall b f).pending = s.pending :=
  (s.updCall_quiet b f).pending

@[simp] theorem State.setPlan_pending (p : Option Plan) : (s.setPlan b p).pending = s.pending := rfl

@[simp] theorem State.endCall_pending (n : Bool) : (s.endCall b n).pending = s.pending := (s.endCall_quiet b n).pending

@[simp] theorem State.releaseHoldings_pending (r : VoidReason) : (s.releaseHoldings b r).pending = s.pending :=
  (s.releaseHoldings_quiet b r).pending

@[simp] theorem State.takeFromLane_pending (m : Holding) : (s.takeFromLane b l m).pending = s.pending := by
  unfold State.takeFromLane
  split
  · rfl
  · split
    · rfl
    · exact s.setCall_pending b _

/-! ## The dock link's messages -/

@[simp] theorem State.openCall_pending (a : ArriveArgs) : (s.openCall b a).1.pending = s.pending := by
  unfold State.openCall
  split
  · split
    · rfl
    · dsimp only
      split <;> exact State.setCall_pending _ b _
  · rfl

@[simp] theorem State.replaceVessel_pending (a : ArriveArgs) : (s.replaceVessel b a).1.pending = s.pending := by
  unfold State.replaceVessel
  split
  · simp only [State.openCall_pending, State.endCall_pending, State.releaseHoldings_pending]
  · rfl

@[simp] theorem State.takeArrive_pending (a : ArriveArgs) : (s.takeArrive b a).1.pending = s.pending := by
  unfold State.takeArrive
  split
  · exact s.openCall_pending b a
  · split
    · split
      · exact s.setCall_pending b _
      · exact s.replaceVessel_pending b a
    · split <;> rfl

@[simp] theorem State.takeRampOpen_pending : (s.takeRampOpen b).1.pending = s.pending := by
  unfold State.takeRampOpen
  split
  · rfl
  · split
    · rfl
    · split
      · exact s.setCall_pending b _
      all_goals rfl

@[simp] theorem State.takeDepartReq_pending : (s.takeDepartReq b).1.pending = s.pending := by
  unfold State.takeDepartReq
  split
  · rfl
  · split
    · rfl
    · split
      case h_1 | h_2 => exact s.setCall_pending b _
      all_goals rfl

@[simp] theorem State.takeHandover_pending : (s.takeHandover b).1.pending = s.pending := by
  unfold State.takeHandover
  split
  · rfl
  · split
    · rfl
    · split
      · exact s.endCall_pending b false
      all_goals rfl

/-! ## The station's orders to a berth and to a lane -/

@[simp] theorem State.takeSetCap_pending (cap : Nat) : (s.takeSetCap b cap).1.pending = s.pending := by
  unfold State.takeSetCap
  split
  · split
    · rfl
    · exact s.setCall_pending b _
  · rfl

@[simp] theorem State.takeClose_pending : (s.takeClose b).1.pending = s.pending := by
  unfold State.takeClose
  split
  · rfl
  · split
    case h_1 | h_2 => rfl
    all_goals exact s.setCall_pending b _

@[simp] theorem State.takeReopen_pending : (s.takeReopen b).1.pending = s.pending := by
  unfold State.takeReopen
  split
  · rfl
  · split
    · exact s.setCall_pending b _
    all_goals rfl

@[simp] theorem State.takeVacate_pending : (s.takeVacate b).1.pending = s.pending := by
  unfold State.takeVacate
  split
  · rfl
  · simp only [State.endCall_pending, State.releaseHoldings_pending]

@[simp] theorem State.clearContext_pending : (s.clearContext l).pending = s.pending := by
  unfold State.clearContext
  split
  · rfl
  · exact ((s.cancelEvaluation_quiet l).trans (State.settle_quiet _ l)).pending
  · exact (s.dropOffer_quiet l _).pending
  · rfl

@[simp] theorem State.takeClear_pending : (s.takeClear l).1.pending = s.pending :=
  (State.voidAll_quiet _ l .cleared).pending.trans (s.clearContext_pending l)

@[simp] theorem State.setRole_pending (role : Role) (settings : LaneSettings) :
    (s.setRole l role settings).1.pending = s.pending := by
  unfold State.setRole
  split <;> rfl

/-! ## The log and the clock -/

@[simp] theorem State.appendUnreserved_pending (c : Content) : (s.appendUnreserved c).pending = s.pending :=
  (s.appendUnreserved_quiet c).pending

@[simp] theorem State.takeDrop_pending (a : DropArgs) : (s.takeDrop a).1.pending = s.pending := by
  unfold State.takeDrop
  split
  · split <;> rfl
  · rfl

@[simp] theorem State.handDay_pending (day : Nat) : (s.handDay day).pending = s.pending := by
  unfold State.handDay
  split <;> rfl

@[simp] theorem State.takeSetClock_pending (a : ClockArgs) : (s.takeSetClock a).1.pending = s.pending := by
  unfold State.takeSetClock
  split
  · refine (State.appendUnreserved_pending _ _).trans ?_
    split
    · rfl
    · exact State.handDay_pending _ a.day
  · rfl

/-! ## Passages -/

@[simp] theorem State.sendHolding_pending (bo : Option BerthId) (m : Holding) :
    (s.sendHolding bo l m).pending = s.pending := (s.sendHolding_quiet bo l m).pending

@[simp] theorem State.commitEntry_pending (e : Entry) (rest : List Entry) :
    (s.commitEntry l e rest).pending = s.pending := State.sendHolding_pending _ l e.berth .commit

@[simp] theorem State.passAtBerth_pending (f : Call → Call) : (s.passAtBerth b f).pending = s.pending := by
  unfold State.passAtBerth
  split
  · exact s.setCall_pending b _
  · rfl

@[simp] theorem State.tailgate_pending : (s.tailgate l).pending = s.pending := by
  have recorded := s.appendUnreserved_pending (.tailgate s.clock.calendar l (s.lane l).role.boards)
  unfold State.tailgate
  dsimp only
  split
  · exact (State.passAtBerth_pending _ _ _).trans recorded
  · exact recorded

@[simp] theorem State.matchPassage_pending : (s.matchPassage l).pending = s.pending := by
  unfold State.matchPassage
  split
  · exact s.commitEntry_pending l _ _
  · exact s.tailgate_pending l

@[simp] theorem State.takePassage_pending : (s.takePassage l).pending = s.pending := by
  unfold State.takePassage
  split
  · rfl
  case h_2 | h_3 => exact s.passAtBerth_pending _ _
  all_goals exact s.matchPassage_pending l

/-! ## The list flash port and the deny list unit -/

@[simp] theorem State.carryOut_pending : s.carryOut.pending = s.pending := by
  unfold State.carryOut
  split
  · exact (s.grantRead_quiet _).pending
  all_goals rfl

@[simp] theorem State.failJob_pending (op : Option FlashOp) : (s.failJob op).pending = s.pending := by
  unfold State.failJob
  dsimp only
  split <;> rfl

@[simp] theorem State.eraseEnded_pending (good : Bool) : (s.eraseEnded good).pending = s.pending := by
  cases good with
  | false => exact s.failJob_pending none
  | true =>
    show s.eraseGood.pending = s.pending
    unfold State.eraseGood
    dsimp only
    split
    · split <;> rfl
    all_goals rfl

/-- A program that ends a commit appends the LIST_COMMIT record (R164). -/
@[simp] theorem State.programEnded_pending (good : Bool) : (s.programEnded good).pending = s.pending := by
  cases good with
  | false => exact s.failJob_pending none
  | true =>
    show s.programGood.pending = s.pending
    unfold State.programGood
    dsimp only
    split
    case h_3 => exact State.appendUnreserved_pending _ _
    case h_4 => split <;> rfl
    all_goals rfl

@[simp] theorem State.actLimit_pending : s.actLimit.pending = s.pending := by
  unfold State.actLimit
  split
  · exact s.failJob_pending _
  · rfl

@[simp] theorem State.suspendEnded_pending (status : SuspendStatus) : (s.suspendEnded status).pending = s.pending := by
  cases status with
  | suspended => exact s.suspendHeld.actLimit_pending
  | ended good =>
    show (if s.port.eraseLimitReached s.now then s.actLimit else s.eraseEnded good).pending = s.pending
    split
    · exact s.actLimit_pending
    · exact s.eraseEnded_pending good

@[simp] theorem State.rebuildRead_pending (res : PageResult) : (s.rebuildRead res).pending = s.pending := by
  unfold State.rebuildRead
  split
  · split <;> rfl
  · rfl

@[simp] theorem State.readEnded_pending (res : PageResult) (who : Requester) :
    (s.readEnded res who).pending = s.pending := by
  cases who with
  | lookup => exact (State.actLimit_pending _).trans (s.lookupRead_quiet res).pending
  | withdrawn => exact s.actLimit_pending
  | rebuild => exact s.rebuildRead_pending res
  | startUp => rfl

@[simp] theorem State.takeListBegin_pending : s.takeListBegin.1.pending = s.pending := by
  unfold State.takeListBegin
  split
  case h_4 | h_5 => split <;> rfl
  all_goals rfl

@[simp] theorem State.addToList_pending (es : List DenyEntry) : (s.addToList es).1.pending = s.pending := by
  unfold State.addToList
  dsimp only
  split
  case h_3 => rfl
  all_goals split <;> rfl

@[simp] theorem State.takeListCommit_pending : s.takeListCommit.1.pending = s.pending := by
  unfold State.takeListCommit
  split
  · rfl
  · split
    · rfl
    · split <;> rfl

/-! ## The restarts -/

@[simp] theorem State.beginRestart_pending (begun : ResetCause) : (s.beginRestart begun).pending = s.pending := by
  unfold State.beginRestart
  split <;> rfl

@[simp] theorem State.release_pending : s.release.pending = s.pending := by
  unfold State.release
  split
  · split
    · exact s.beginRestart_pending _
    · rfl
  all_goals rfl

@[simp] theorem State.enterHold_pending : s.enterHold.pending = s.pending := by
  unfold State.enterHold
  split <;> rfl

@[simp] theorem State.finishCold_pending (x y : Option Nat) (op : Option FlashOp) :
    (s.finishCold x y op).pending = s.pending := rfl

@[simp] theorem State.finishUnread_pending (op : Option FlashOp) : (s.finishUnread op).pending = s.pending :=
  s.countUnread.finishCold_pending none none op

@[simp] theorem State.loadSettings_pending (img : Option SettingsCopy) : (s.loadSettings img).pending = s.pending := by
  cases img <;> rfl

@[simp] theorem State.afterContent_pending (pages : List Page) : (s.afterContent pages).pending = s.pending := by
  unfold State.afterContent
  split
  · rfl
  · exact s.loadSettings_pending _

@[simp] theorem State.coldRead_pending (res : PageResult) (stage : ColdStage) :
    (s.coldRead res stage).pending = s.pending := by
  cases stage with
  | imageHeader =>
    show (if imageHeaderValid res then s.afterContent [] else s.afterImage none).pending = s.pending
    split
    · exact s.afterContent_pending _
    · rfl
  | imageContent pages =>
    cases res with
    | good p => exact s.afterContent_pending _
    | erased | unreadable => rfl
  | bankHeaderB a => exact s.finishCold_pending a _ none
  | flashReset _ | bankHeaderA => rfl

end

/-! ## How a command reaches its block -/

/-- A command's outcome is a next state, with the queue of `s`. -/
def GoesOn (s : State) (o : Host.Outcome State Fault Refusal) : Prop := ∃ t, o = .next t ∧ t.pending = s.pending

namespace GoesOn

theorem next {s t : State} (h : t.pending = s.pending) : GoesOn s (.next t) := ⟨t, rfl, h⟩

/-- A part that does not run leaves the command (log 25). -/
theorem whenRunning {s : State} {f : State → State} (h : (f s).pending = s.pending) :
    GoesOn s (.next (s.whenRunning f)) := by
  refine next ?_
  unfold State.whenRunning
  split
  · exact h
  · rfl

/-- A lane whose TAKE is held leaves the frame (R51). -/
theorem onLane {s : State} {l : LaneId} {f : State → State} (h : (f s).pending = s.pending) :
    GoesOn s (.next (s.onLane l f)) := by
  refine whenRunning ?_
  split
  · rfl
  · exact h

theorem onDock {α : Type} {s : State} {b : BerthId} {fields : Fields α} {f : α → State → State × DockReply}
    (h : ∀ (a : α) (t : State), (f a t).1.pending = t.pending) : GoesOn s (.next (s.onDock b fields f)) := by
  have heard := s.updCall_pending b fun c => c.heard s.now
  refine whenRunning ?_
  cases fields with
  | misfit => exact heard
  | fit a => exact (h a _).trans heard

theorem onTransfer {s : State} {f : State → State} (h : (f s.collect).pending = s.collect.pending) :
    GoesOn s (.next (s.onTransfer f)) := by
  refine next ?_
  unfold State.onTransfer
  split
  · exact h
  all_goals rfl

theorem onStation {α : Type} {s : State} {cmd : Command} {fields : Fields α} {f : α → State → State × Answer}
    (h : ∀ (a : α) (t : State), (f a t).1.pending = t.pending) : GoesOn s (.next (s.onStation cmd fields f)) := by
  refine onTransfer ?_
  cases fields with
  | misfit => rfl
  | fit a => exact h a _

end GoesOn

theorem onLaneCode_pending {code : Nat} {s : State} {f : LaneId → State × Answer}
    (h : ∀ l, (f l).1.pending = s.pending) : (onLaneCode code s f).1.pending = s.pending := by
  unfold onLaneCode
  split
  · exact h _
  · rfl

theorem onBerthCode_pending {code : Nat} {s : State} {f : BerthId → State × Answer}
    (h : ∀ b, (f b).1.pending = s.pending) : (onBerthCode code s f).1.pending = s.pending := by
  unfold onBerthCode
  split
  · exact h _
  · rfl

section
variable (s : State) (l : LaneId) (b : BerthId)

/-! ## The lanes and the berths -/

theorem execTap_goesOn (fields : List Byte) : GoesOn s (execTap l fields s) := by
  refine .onLane ?_
  split
  · rfl
  · exact (s.takeTap_quiet l _).pending

theorem execTake_goesOn : GoesOn s (execTake l s) := by
  refine .onLane ?_
  split <;> rfl

theorem execWroteOk_goesOn : GoesOn s (execWroteOk l s) := by
  refine .onLane ?_
  split <;> rfl

theorem execWroteFailed_goesOn : GoesOn s (execWroteFailed l s) := by
  refine .onLane ?_
  split
  · rfl
  · exact (s.voidEntry_quiet l _ _ .writeFailed).pending

theorem execSilenceDeadline_goesOn : GoesOn s (execSilenceDeadline b s) := by
  refine .whenRunning ?_
  split
  · rfl
  · split
    · exact s.setCall_pending b _
    · rfl

theorem execClosingDeadline_goesOn : GoesOn s (execClosingDeadline b s) := by
  refine .whenRunning ?_
  split
  · rfl
  · split
    · simp only [State.updCall_pending, State.releaseHoldings_pending]
    · rfl

theorem execRawLevelChange_goesOn (level : Level) : GoesOn s (execRawLevelChange l level s) := by
  refine .next ?_
  split
  · rfl
  · split <;> rfl

theorem execDebounceDeadline_goesOn : GoesOn s (execDebounceDeadline l s) := by
  refine .whenRunning ?_
  split
  · split
    · rfl
    · dsimp only
      split
      · rfl
      · exact State.takePassage_pending _ l
  · rfl

theorem execBlockedDeadline_goesOn : GoesOn s (execBlockedDeadline l s) := by
  refine .whenRunning ?_
  split <;> rfl

theorem execVerdictDeadline_goesOn : GoesOn s (execVerdictDeadline l s) := by
  refine .whenRunning ?_
  split
  · split
    · exact (State.applyPolicy_quiet _ l _).pending.trans (s.withdrawLookup_quiet l).pending
    · rfl
  all_goals rfl

theorem execTakeDeadline_goesOn : GoesOn s (execTakeDeadline l s) := by
  refine .whenRunning ?_
  split
  · split
    · exact (s.dropOffer_quiet l _).pending
    · rfl
  all_goals rfl

theorem execWriteDeadline_goesOn : GoesOn s (execWriteDeadline l s) := by
  refine .whenRunning ?_
  split
  · split <;> rfl
  · rfl

theorem execPassageDeadline_goesOn (which : WhichEntry) : GoesOn s (execPassageDeadline l which s) := by
  refine .whenRunning ?_
  split
  · split
    · exact (s.voidEntry_quiet l _ _ .noPassage).pending
    · rfl
  · rfl

theorem execCalendarSecond_goesOn : GoesOn s (execCalendarSecond s) := by
  refine .next ?_
  split
  · split
    · dsimp only
      split
      · rfl
      · exact State.handDay_pending _ _
    · rfl
  · rfl

/-! ## The list flash port -/

theorem execPortGrant_goesOn : GoesOn s (execPortGrant s) := by
  refine .whenRunning ?_
  split
  · rfl
  · exact s.arbitrate.carryOut_pending

theorem execSuspendIssue_goesOn : GoesOn s (execSuspendIssue s) := by
  refine .whenRunning ?_
  split
  · split <;> rfl
  · rfl

theorem execSuspendEnd_goesOn (status : SuspendStatus) : GoesOn s (execSuspendEnd status s) := by
  refine .whenRunning ?_
  split
  · exact s.suspendEnded_pending status
  · rfl

theorem execPageReadEnd_goesOn (reads : FlashReads) : GoesOn s (execPageReadEnd reads s) := by
  refine .next ?_
  split
  · exact State.readEnded_pending (s.endRead reads) _ _
  · exact State.coldRead_pending (s.endRead reads) _ _
  · rfl

theorem execPageProgramEnd_goesOn (good : Bool) : GoesOn s (execPageProgramEnd good s) := by
  refine .whenRunning ?_
  split
  · split
    · exact s.failJob_pending _
    · exact s.programEnded_pending good
  · rfl

theorem execSectorEraseEnd_goesOn (good : Bool) : GoesOn s (execSectorEraseEnd good s) := by
  refine .whenRunning ?_
  split
  · split
    · exact s.failJob_pending _
    · exact s.eraseEnded_pending good
  · rfl

theorem execFlashResetEnd_goesOn : GoesOn s (execFlashResetEnd s) := by
  refine .next ?_
  split
  case h_3 =>
    split
    · exact s.finishUnread_pending none
    · rfl
  all_goals rfl

theorem execOperationTimeLimit_goesOn : GoesOn s (execOperationTimeLimit s) := by
  refine .whenRunning ?_
  split
  · split
    · exact s.failJob_pending _
    · rfl
  case h_2 | h_3 => exact s.actLimit_pending
  all_goals rfl

theorem execFlashReadyTimeout_goesOn : GoesOn s (execFlashReadyTimeout s) := by
  refine .next ?_
  split
  · split
    · exact s.finishUnread_pending _
    · rfl
  · rfl

/-! ## The pins, the supplies and RESTART -/

theorem execResetInputAssert_goesOn : GoesOn s (execResetInputAssert s) := by
  refine .next ?_
  split
  · rfl
  · exact s.enterHold_pending

theorem execResetInputRelease_goesOn : GoesOn s (execResetInputRelease s) := by
  refine .next ?_
  split
  · exact State.release_pending _
  · rfl

theorem execCoreSupplyRise_goesOn (low : Bool) : GoesOn s (execCoreSupplyRise low s) := by
  refine .next ?_
  split
  · rfl
  · exact State.release_pending _

theorem execCoreSupplyFall_goesOn : GoesOn s (execCoreSupplyFall s) := by
  refine .next ?_
  split
  · exact s.enterHold_pending
  · rfl

theorem execRestart_goesOn (fields : Fields Unit) : GoesOn s (execRestart fields s) := by
  refine .onTransfer ?_
  cases fields with
  | misfit => rfl
  | fit => exact State.beginRestart_pending _ _

/-! ## The commands of the station port -/

theorem execReadStats_goesOn (fields : Fields Bool) : GoesOn s (execReadStats fields s) := by
  refine .onStation fun clear t => ?_
  dsimp only
  split <;> rfl

theorem execSetLane_goesOn (fields : Fields LaneArgs) : GoesOn s (execSetLane fields s) := by
  refine .onStation fun a t => onLaneCode_pending fun l => ?_
  split
  · split
    · exact t.setRole_pending l _ _
    · rfl
  · rfl

theorem execSetLanding_goesOn (fields : Fields LandingArgs) : GoesOn s (execSetLanding fields s) := by
  refine .onStation fun a t => ?_
  split <;> rfl

theorem execWriteFare_goesOn (fields : Fields WriteFareArgs) : GoesOn s (execWriteFare fields s) := by
  refine .onStation fun a t => ?_
  split
  · split <;> rfl
  · rfl

theorem execStagePlan_goesOn (fields : Fields PlanArgs) : GoesOn s (execStagePlan fields s) := by
  refine .onStation fun a t => onBerthCode_pending fun b => ?_
  split <;> rfl

theorem execListAdd_goesOn (fields : Fields (List AddEntry)) : GoesOn s (execListAdd fields s) := by
  refine .onStation fun a t => ?_
  split
  · split
    · exact t.addToList_pending _
    · rfl
  · rfl

theorem execStoreSettings_goesOn (fields : Fields Unit) : GoesOn s (execStoreSettings fields s) := by
  refine .onStation fun _ t => ?_
  split <;> rfl

end

/-! ## Every command -/

/-- Whatever the state, a command is answered by a next state that keeps the queue. -/
theorem exec_goesOn (c : Instr) (s : State) : GoesOn s (exec c s) := by
  cases c with
  | tap l fields => exact execTap_goesOn s l fields
  | take l => exact execTake_goesOn s l
  | wroteOk l => exact execWroteOk_goesOn s l
  | wroteFailed l => exact execWroteFailed_goesOn s l
  | laneStatus l => exact .onLane rfl
  | laneBadFrame l => exact .onLane rfl
  | laneUnknownMessage l => exact .onLane rfl
  | arrive b fields => exact .onDock fun a t => t.takeArrive_pending b a
  | rampOpen b fields => exact .onDock fun _ t => t.takeRampOpen_pending b
  | countQuery b fields => exact .onDock fun _ _ => rfl
  | departReq b fields => exact .onDock fun _ t => t.takeDepartReq_pending b
  | handoverTaken b fields => exact .onDock fun _ t => t.takeHandover_pending b
  | dockBadFrame b => exact .whenRunning rfl
  | dockUnknownMessage b => exact .onDock fun _ _ => rfl
  | silenceDeadline b => exact execSilenceDeadline_goesOn s b
  | closingDeadline b => exact execClosingDeadline_goesOn s b
  | berthCommit b l => exact .whenRunning (s.takeFromLane_pending l b .commit)
  | berthRelease b l => exact .whenRunning (s.takeFromLane_pending l b .release)
  | rawLevelChange l level => exact execRawLevelChange_goesOn s l level
  | debounceDeadline l => exact execDebounceDeadline_goesOn s l
  | blockedDeadline l => exact execBlockedDeadline_goesOn s l
  | verdictDeadline l => exact execVerdictDeadline_goesOn s l
  | takeDeadline l => exact execTakeDeadline_goesOn s l
  | writeDeadline l => exact execWriteDeadline_goesOn s l
  | passageDeadline l which => exact execPassageDeadline_goesOn s l which
  | calendarSecond => exact execCalendarSecond_goesOn s
  | readStatus fields => exact .onStation fun _ _ => rfl
  | readStats fields => exact execReadStats_goesOn s fields
  | setClock fields => exact .onStation fun a t => t.takeSetClock_pending a
  | setLane fields => exact execSetLane_goesOn s fields
  | setLanding fields => exact execSetLanding_goesOn s fields
  | writeFare fields => exact execWriteFare_goesOn s fields
  | readFare fields => exact .onStation fun _ _ => rfl
  | stagePlan fields => exact execStagePlan_goesOn s fields
  | cancelPlan fields => exact .onStation fun _ t => onBerthCode_pending fun b => t.setPlan_pending b none
  | setCap fields => exact .onStation fun _ t => onBerthCode_pending fun b => t.takeSetCap_pending b _
  | closeBerth fields => exact .onStation fun _ t => onBerthCode_pending t.takeClose_pending
  | reopenBerth fields => exact .onStation fun _ t => onBerthCode_pending t.takeReopen_pending
  | forceVacate fields => exact .onStation fun _ t => onBerthCode_pending t.takeVacate_pending
  | laneClear fields => exact .onStation fun _ t => onLaneCode_pending t.takeClear_pending
  | listBegin fields => exact .onStation fun _ t => t.takeListBegin_pending
  | listAdd fields => exact execListAdd_goesOn s fields
  | listCommit fields => exact .onStation fun _ t => t.takeListCommit_pending
  | logPeek fields => exact .onStation fun _ _ => rfl
  | logDrop fields => exact .onStation fun a t => t.takeDrop_pending a
  | storeSettings fields => exact execStoreSettings_goesOn s fields
  | restart fields => exact execRestart_goesOn s fields
  | rttQuery fields => exact .onStation fun _ _ => rfl
  | emptyFrame => exact .onTransfer rfl
  | stationBadFrame => exact .onTransfer rfl
  | stationUnknownCommand kind => exact .onTransfer rfl
  | portGrant => exact execPortGrant_goesOn s
  | suspendIssue => exact execSuspendIssue_goesOn s
  | suspendEnd status => exact execSuspendEnd_goesOn s status
  | pageReadEnd reads => exact execPageReadEnd_goesOn s reads
  | pageProgramEnd good => exact execPageProgramEnd_goesOn s good
  | sectorEraseEnd good => exact execSectorEraseEnd_goesOn s good
  | flashResetEnd => exact execFlashResetEnd_goesOn s
  | operationTimeLimit => exact execOperationTimeLimit_goesOn s
  | resetInputAssert => exact execResetInputAssert_goesOn s
  | resetInputRelease => exact execResetInputRelease_goesOn s
  | coreSupplyRise low => exact execCoreSupplyRise_goesOn s low
  | coreSupplyFall => exact execCoreSupplyFall_goesOn s
  | retentionSupplyDip => exact .next rfl
  | flashReadyTimeout => exact execFlashReadyTimeout_goesOn s

/-- Settles O3, by the commands one after another. -/
theorem everyCommandGivesANextState : Obligations.EveryCommandGivesANextState := by
  unfold Obligations.EveryCommandGivesANextState
  exact exec_goesOn

end Sys2Proof.Machine
end
